-- ==== Sys2Proof/Word.lean ====
section
/-! DEFINITION. The word types of the block (00_scope.md R9): 32-bit registers and addresses, 8-bit samples,
10-bit TMDS symbols and the 20-bit pairs of the output stream. -/

namespace Sys2Proof

/-- REG_WIDTH and ADDR_WIDTH: a 32-bit register, transfer word or byte address (R9). -/
abbrev Word := BitVec 32

/-- SAMPLE_BITS: an 8-bit sample, and one byte of system memory (R9). -/
abbrev Byte := BitVec 8

/-- TIMING_FIELD_WIDTH: one porch, sync or active width (R9, R34). -/
abbrev Half := BitVec 16

/-- SYMBOL_BITS: one TMDS symbol `q_out[9:0]` (R130). -/
abbrev Symbol := BitVec 10

/-- Two symbols of one lane, as the EMITTER puts them on OUT (R58, R235). -/
abbrev Pair := BitVec 20

/-- An offset into the 4096-byte register window (R70). -/
abbrev Offset := BitVec 12

end Sys2Proof
end

