-- ==== Sys2Proof/Config.lean ====
section
/-! DEFINITION. What the spec leaves to the platform, the parameters of 00_scope.md R8: P_BASE, TX_FIFO_DEPTH,
MEM_ADMIT, and the contents of system memory that the memory oracle answers. -/

namespace Sys2Proof

/-- One run of byte addresses, both ends included. -/
structure AddrRange where
  first : Word
  last : Word
  deriving DecidableEq, Repr, Inhabited

/-- The parameters (R8, R9). They are constant for a machine: no step writes them.
DESIGN CHOICE (log 3, 4, 5, 6): they are carried in `State` as plain data, so that a statement about every
state is a statement about every value of them. -/
structure Params where
  /-- P_BASE divided by 0x1000: P_BASE is a multiple of 0x1000 (R70), so its low 12 bits are zero. -/
  basePage : BitVec 20
  /-- TX_FIFO_DEPTH minus one: TX_FIFO_DEPTH is an integer of at least 1 (R9, R222). -/
  extraFifoDepth : Nat
  /-- MEM_ADMIT as the list of the address runs it admits (R80); every predicate on the 2^32 addresses
  is such a list. -/
  memAdmit : List AddrRange
  /-- The contents of system memory before any write, as (address, byte) pairs; every contents of the 2^32
  addresses is such a list (R8, R80, 93 U10). -/
  sysMem : List (Word × Byte)
  deriving DecidableEq, Repr, Inhabited

/-- The parameters of the machine that leaves reset. The spec gives none (R8; R9: OPEN), so this constant has
no body and no proof can learn what it is. DESIGN CHOICE (log 3), safe. -/
opaque Config.params : Params

end Sys2Proof
end

