-- ==== Sys2Proof/Syntax.lean ====
section
/-! DEFINITION. The syntax: the commands of 30_encoding.md R103 as the one inductive `Instr`, and the HOST's
accesses of R107. Every operand has exactly the width its encoding field has (R101, R102). -/

namespace Sys2Proof

/-- A vertical line-state, and the descriptor list built for it (R28, R190). -/
inductive LineState
  | frontPorch
  | sync
  | backPorch
  | active
  deriving DecidableEq, Repr

/-- The commands, one constructor per row of the opcode table (R103). -/
inductive Instr
  /-- NOP (R229). -/
  | nop
  /-- ENC byte (R136). -/
  | enc (byte : Byte)
  /-- ENC_PAIR b0, b1 (R138). -/
  | encPair (b0 b1 : Byte)
  /-- ENC_APPROX byte (R139). -/
  | encApprox (byte : Byte)
  /-- CTRL_SYM c, with c = C1, C0 (R143). -/
  | ctrlSym (c : BitVec 2)
  /-- TIM_RESET (R163). -/
  | timReset
  /-- TIM_ADVANCE (R162). -/
  | timAdvance
  /-- TIM_INDEX (R165). -/
  | timIndex
  /-- DMA_SETUP (R195). -/
  | dmaSetup
  /-- DMA_UPDATE (R200). -/
  | dmaUpdate
  /-- TX_SUBMIT s (R228). -/
  | txSubmit (list : LineState)
  /-- TX_SUBMIT_ACTIVE (R230). -/
  | txSubmitActive
  /-- TX_WAIT (R232). -/
  | txWait
  deriving DecidableEq, Repr

/-- The width of one HOST access. The register window takes 32-bit accesses only (R74); system memory may be
filled with byte or halfword stores (R72). -/
inductive AccessWidth
  | byte
  | half
  | word
  deriving DecidableEq, Repr

/-- One step of the HOST (R7, R107). -/
inductive HostOp
  /-- `RD`: RegRead at an offset of the window (R75). -/
  | read (width : AccessWidth) (off : Offset)
  /-- `WR`: RegWrite at an offset of the window (R76); `CMD` is `WR CMD` with the command's word. -/
  | write (width : AccessWidth) (off : Offset) (value : Word)
  /-- `MW`: MemWrite to system memory (R13). -/
  | memWrite (width : AccessWidth) (addr : Word) (value : Word)
  /-- `WAIT_IRQ`: the HOST does nothing until the IRQ output is 1 (R107, R267). -/
  | waitIrq
  deriving DecidableEq, Repr

end Sys2Proof
end

