-- ==== Sys2Proof/WellFormed.lean ====
section
/-! DEFINITION. Well-formed syntax. A command's operands are exactly as wide as their encoding fields, so
every `Instr` is well formed by its type (R101, R102); a HOST access is well formed when the bus takes it:
a 32-bit access at an offset that is a multiple of 4 (R74), a memory write at a multiple of its width (R78). -/

namespace Sys2Proof

/-- The number of bytes of an access. -/
def AccessWidth.bytes : AccessWidth → Nat
  | .byte => 1
  | .half => 2
  | .word => 4

/-- Every value of every operand field is legal: bytes 0 to 255 (R102), all four control indices (R143), all
four line-states (R228). -/
def Instr.wf : Instr → Bool
  | .nop => true
  | .enc _ => true
  | .encPair _ _ => true
  | .encApprox _ => true
  | .ctrlSym _ => true
  | .timReset => true
  | .timAdvance => true
  | .timIndex => true
  | .dmaSetup => true
  | .dmaUpdate => true
  | .txSubmit _ => true
  | .txSubmitActive => true
  | .txWait => true

/-- A HOST access the bus takes: the window takes 32-bit accesses at multiples of 4 (R74); a memory write is
aligned to its width (R78 (e)). -/
def HostOp.wf : HostOp → Bool
  | .read width off => width == .word && off.toNat % 4 == 0
  | .write width off _ => width == .word && off.toNat % 4 == 0
  | .memWrite width addr _ => addr.toNat % width.bytes == 0
  | .waitIrq => true

end Sys2Proof
end

