-- ==== Sys2Proof/Decode.lean ====
section
/-! DEFINITION. The command decoder and encoder (30_encoding.md R101 to R108). A command is one 32-bit word:
OPC in bits 7:0, F1 in 15:8, F2 in 23:16, and 31:24 zero. Decoding is total: a word the table does not give
is refused by the cause of R104, and the block then raises that CmdError (R105). -/

namespace Sys2Proof

/-! ### Line-state numbers (R28) -/

/-- 0 = FrontPorch, 1 = Sync, 2 = BackPorch, 3 = Active (R28). -/
def lineStateBits : LineState → BitVec 2
  | .frontPorch => 0#2
  | .sync => 1#2
  | .backPorch => 2#2
  | .active => 3#2

/-- The line-state with a given number (R28). -/
def lineStateOfBits (b : BitVec 2) : LineState :=
  if b = 0#2 then .frontPorch
  else if b = 1#2 then .sync
  else if b = 2#2 then .backPorch
  else .active

/-! ### Fields of a command word (R101) -/

/-- OPC = w[7:0]. -/
def cmdOpc (w : Word) : Byte := w.extractLsb' 0 8

/-- F1 = w[15:8]. -/
def cmdF1 (w : Word) : Byte := w.extractLsb' 8 8

/-- F2 = w[23:16]. -/
def cmdF2 (w : Word) : Byte := w.extractLsb' 16 8

/-- The 2-bit selector w[9:8] (R101, R102). -/
def cmdSel (w : Word) : BitVec 2 := w.extractLsb' 8 2

/-! ### The decoder (R103, R104) -/

/-- Why a command word is refused (R104). -/
inductive DecodeError
  /-- w[7:0] is no assigned opcode: cause 0x01. -/
  | reservedOpcode
  /-- A bit outside the opcode's used fields is 1: cause 0x02. -/
  | reservedBits
  deriving DecidableEq, Repr

/-- One row of the opcode map: the bits the opcode uses (USED_MASK of R104) and how its operands are taken
from the word (R102). -/
structure OpcodeRow where
  usedMask : Word
  instrOf : Word → Instr

/-- The opcode map of R103; `none` for a reserved opcode. -/
def opcodeRow (opc : Byte) : Option OpcodeRow :=
  if opc = 0x00#8 then some ⟨0x000000FF#32, fun _ => .nop⟩
  else if opc = 0x01#8 then some ⟨0x0000FFFF#32, fun w => .enc (cmdF1 w)⟩
  else if opc = 0x02#8 then some ⟨0x00FFFFFF#32, fun w => .encPair (cmdF1 w) (cmdF2 w)⟩
  else if opc = 0x03#8 then some ⟨0x0000FFFF#32, fun w => .encApprox (cmdF1 w)⟩
  else if opc = 0x04#8 then some ⟨0x000003FF#32, fun w => .ctrlSym (cmdSel w)⟩
  else if opc = 0x10#8 then some ⟨0x000000FF#32, fun _ => .timReset⟩
  else if opc = 0x11#8 then some ⟨0x000000FF#32, fun _ => .timAdvance⟩
  else if opc = 0x12#8 then some ⟨0x000000FF#32, fun _ => .timIndex⟩
  else if opc = 0x20#8 then some ⟨0x000000FF#32, fun _ => .dmaSetup⟩
  else if opc = 0x21#8 then some ⟨0x000000FF#32, fun _ => .dmaUpdate⟩
  else if opc = 0x30#8 then some ⟨0x000003FF#32, fun w => .txSubmit (lineStateOfBits (cmdSel w))⟩
  else if opc = 0x31#8 then some ⟨0x000000FF#32, fun _ => .txSubmitActive⟩
  else if opc = 0x32#8 then some ⟨0x000000FF#32, fun _ => .txWait⟩
  else none

/-- `Decode(w)` of R104: the opcode first, then the unused bits. -/
def decode (w : Word) : Except DecodeError Instr :=
  match opcodeRow (cmdOpc w) with
  | none => .error .reservedOpcode
  | some row =>
    if w &&& ~~~row.usedMask = 0#32 then .ok (row.instrOf w) else .error .reservedBits

/-! ### The encoder (R108) -/

/-- `w = OPC | (F1 << 8) | (F2 << 16)`, laid out as R101 lays out the word. -/
def cmdWord (opc f1 f2 : Byte) : Word := 0x00#8 ++ f2 ++ f1 ++ opc

/-- A 2-bit selector in F1: bits [9:8] of the word, the rest of F1 zero (R101). -/
def selField (c : BitVec 2) : Byte := 0#6 ++ c

/-- The word a command assembles to (R103, R108). -/
def encode : Instr → Word
  | .nop => cmdWord 0x00#8 0#8 0#8
  | .enc byte => cmdWord 0x01#8 byte 0#8
  | .encPair b0 b1 => cmdWord 0x02#8 b0 b1
  | .encApprox byte => cmdWord 0x03#8 byte 0#8
  | .ctrlSym c => cmdWord 0x04#8 (selField c) 0#8
  | .timReset => cmdWord 0x10#8 0#8 0#8
  | .timAdvance => cmdWord 0x11#8 0#8 0#8
  | .timIndex => cmdWord 0x12#8 0#8 0#8
  | .dmaSetup => cmdWord 0x20#8 0#8 0#8
  | .dmaUpdate => cmdWord 0x21#8 0#8 0#8
  | .txSubmit list => cmdWord 0x30#8 (selField (lineStateBits list)) 0#8
  | .txSubmitActive => cmdWord 0x31#8 0#8 0#8
  | .txWait => cmdWord 0x32#8 0#8 0#8

/-- The command whose bits are `w`, numbered as spec/opcode_table.json numbers them. Every command is one
32-bit word (R106), given to the decoder as the HOST writes it to CMD; bits above `nbits` are zero. -/
def decodeTableWord (nbits w : Nat) : Option Instr :=
  match decode (BitVec.ofNat 32 (w % 2 ^ nbits)) with
  | .ok i => some i
  | .error _ => none

end Sys2Proof
end

