-- ==== Sys2Proof/Machine/State.lean ====
section
/-! DEFINITION. The machine's state as plain data (10_state.md R20 to R60), and the state after reset. -/

namespace Sys2Proof.Machine

/-! ### Names and small records -/

/-- The three serial lanes (R9). -/
inductive Lane
  | lane0
  | lane1
  | lane2
  deriving DecidableEq, Repr

/-- One value for each lane. -/
structure Lanes (α : Type) where
  l0 : α
  l1 : α
  l2 : α
  deriving DecidableEq, Repr

/-- The four descriptor slots of a lane (R40). -/
inductive Slot
  | slot0
  | slot1
  | slot2
  | slot3
  deriving DecidableEq, Repr

/-- One value for each slot of a lane. -/
structure Slots (α : Type) where
  b0 : α
  b1 : α
  b2 : α
  b3 : α
  deriving DecidableEq, Repr

/-- One value for each line-state's list. -/
structure Lists (α : Type) where
  fp : α
  sync : α
  bp : α
  active : α
  deriving DecidableEq, Repr

/-- One descriptor slot: SRC, DST, COUNT, DCTRL (R41). -/
structure Descriptor where
  src : Word
  dst : Word
  count : Word
  dctrl : Word
  deriving DecidableEq, Repr

/-- The all-zero slot: not VALID (R41). -/
def Descriptor.zero : Descriptor := ⟨0#32, 0#32, 0#32, 0#32⟩

/-- The descriptor RAM: four lists of three lanes of four slots (R40). -/
abbrev DescRam := Lists (Lanes (Slots Descriptor))

/-! ### Registers -/

/-- CTRL (R25); bits 31:2 read as 0 and hold nothing. -/
structure Ctrl where
  run : Bool
  irqEn : Bool
  deriving DecidableEq, Repr

/-- STATUS (R26); bits 31:24 read as 0 and hold nothing. -/
structure Status where
  lineIrq : Bool
  missed : Bool
  irqOvr : Bool
  unbal : Bool
  cmdErr : Bool
  txFault : Bool
  built : Bool
  srcValid : Bool
  errCause : Byte
  txFaultCause : Byte
  deriving DecidableEq, Repr

/-- The timing configuration `DviTiming` (R34 to R36). -/
structure Timing where
  hFp : Half
  hSync : Half
  hBp : Half
  hActive : Half
  vFp : Half
  vSync : Half
  vBp : Half
  vActive : Half
  /-- POL: bit 0 HSYNC_POS, bit 1 VSYNC_POS (R35). -/
  pol : BitVec 2
  bitClkKhz : Word
  deriving DecidableEq, Repr

/-- One lane's part of the FETCHER's hidden state: the snapshot of the block in flight (R56). -/
structure LaneFetch where
  slot : Slot
  rem : Word
  addr : Word
  dc : Word
  deriving DecidableEq, Repr

/-- The FETCHER's hidden state (R56). -/
structure Fetcher where
  lanes : Lanes LaneFetch
  /-- FK: the lane whose word is read next in the current fetch slot. -/
  fk : Lane
  deriving DecidableEq, Repr

/-! ### Outside the block -/

/-- What has been written to system memory: (address, byte) pairs in one canonical form (`Memory.wf`); an
address nothing lists reads as the parameters say (`oracleByte`, log 6). -/
abbrev Memory := List Host.Cell

/-- The HOST agent. `program` and `lastRead` are the MODEL's own fields (log 1, log 11). -/
structure HostAgent where
  /-- The accesses the HOST makes next, in its program order (R81). -/
  program : List HostOp
  /-- A TX_WAIT's CMD write holds: it has begun and not completed (R232, log 12). -/
  holding : Bool
  /-- The HOST took a BusFault and takes no further step (R264, 93 U1). -/
  stuck : Bool
  /-- What the last register read returned (R75). -/
  lastRead : Word
  deriving DecidableEq, Repr

/-- Who makes a step: the four agents of R7, and another core that writes system memory. "A model may include
them as HOST MemWrite steps" (R274, 92 D34): DESIGN CHOICE (log 17), they are steps of their own, so that one may
come at any point of the order of R81, while the HOST holds, waits or is stuck as well. -/
inductive Agent
  | host
  | fetcher
  | emitter
  | reset
  /-- Another core writes the low bytes of a word to system memory (R274, log 17). -/
  | otherCore (width : AccessWidth) (addr value : Word)
  deriving DecidableEq, Repr

/-! ### The state -/

/-- Everything the spec gives the machine (R20), the parameters (R8), system memory (R70), and the model's
own inputs: the HOST's program and the agenda. -/
structure State where
  /-- The parameters P_BASE, TX_FIFO_DEPTH, MEM_ADMIT and the contents of system memory before any write
  (R8, R9; log 3, log 6): no step writes them. -/
  params : Params
  /-- What has been written to system memory (R70, R80). -/
  mem : Memory
  host : HostAgent
  /-- The MODEL's own field (log 2): the agents that move next, in the one total order of R81. -/
  agenda : List Agent
  ctrl : Ctrl
  status : Status
  arg0 : Word
  arg1 : Word
  res0 : Word
  res1 : Word
  timing : Timing
  /-- TX_DST0 to TX_DST2 (R37). -/
  txDst : Lanes Word
  vstate : LineState
  vctr : Word
  desc : DescRam
  nextList : LineState
  curList : LineState
  wordCnt : Word
  fetchCnt : Word
  /-- ARMED (R55). -/
  armed : Bool
  fetcher : Fetcher
  /-- FIFO[0..2], head first (R57). -/
  fifo : Lanes (List Word)
  /-- OUT, oldest triple first (R58). -/
  out : List (Lanes Pair)
  deriving DecidableEq, Repr

/-! ### Outcomes -/

/-- Why a step has no next state. The spec gives every step of every agent a next state (93 U9), so each of
these marks a state or an input for which the spec's rules say nothing. -/
inductive Fault
  /-- Raised by the HOST's memory write at an address that is not a multiple of its width: R78 (e) speaks of
  aligned words only (log 9). Safe: the model stops. -/
  | memWriteMisaligned
  /-- Raised by the FETCHER's read at an address that is not a multiple of 4: "a misaligned FETCHER read never
  arises" (R77, log 10). Safe: the model stops. -/
  | fetchMisaligned
  /-- Raised by the FETCHER's read for a lane whose block has no words left: a loaded slot has COUNT at least
  1 (R223, log 10). Safe: the model stops. -/
  | fetchPastBlock
  /-- Raised by the FETCHER's load of a slot past slot 3: every lane's chain ends with a LAST block (R198,
  log 10). Safe: the model stops. -/
  | loadPastSlots
  deriving DecidableEq, Repr

/-- Why a step is refused. -/
inductive Refusal
  /-- Raised by `exec` for a command that has no meaning yet. Safe: the model stops. No arm raises it now. -/
  | notModelled (mnemonic : String)
  deriving DecidableEq, Repr

/-- What a step answers. -/
abbrev Result := Host.Outcome State Fault Refusal

/-! ### Reset (R60, R290) -/

/-- One lane's fetch state after reset: all 0 (R60). -/
def LaneFetch.reset : LaneFetch := ⟨.slot0, 0#32, 0#32, 0#32⟩

/-- A lane's descriptor slots after reset: all 0 (R60). -/
def Slots.zero : Slots Descriptor := ⟨.zero, .zero, .zero, .zero⟩

/-- The descriptor RAM after reset: all 192 words 0 (R60). -/
def DescRam.zero : DescRam :=
  let lane : Slots Descriptor := Slots.zero
  let list : Lanes (Slots Descriptor) := ⟨lane, lane, lane⟩
  ⟨list, list, list, list⟩

/-- The machine right after reset: every element of the table of R60. System memory lists nothing, so each byte
is what the parameters say; the parameters are the opaque `Config.params` (log 3, log 6); no HOST program and no
agenda is placed (log 1, log 2). -/
def State.reset : State where
  params := Config.params
  mem := []
  host := ⟨[], false, false, 0#32⟩
  agenda := []
  ctrl := ⟨false, false⟩
  status := ⟨false, false, false, false, false, false, false, false, 0x00#8, 0x00#8⟩
  arg0 := 0#32
  arg1 := 0#32
  res0 := 0#32
  res1 := 0#32
  timing := ⟨0#16, 0#16, 0#16, 0#16, 0#16, 0#16, 0#16, 0#16, 0#2, 0#32⟩
  txDst := ⟨0#32, 0#32, 0#32⟩
  vstate := .frontPorch
  vctr := 0#32
  desc := DescRam.zero
  nextList := .frontPorch
  curList := .frontPorch
  wordCnt := 0#32
  fetchCnt := 0#32
  armed := false
  fetcher := ⟨⟨.reset, .reset, .reset⟩, .lane0⟩
  fifo := ⟨[], [], []⟩
  out := []

end Sys2Proof.Machine
end

