-- ==== Sys2Proof/Machine/Ops.lean ====
section
/-! DEFINITION. The named operations over the state: indexed reads and writes, system memory, raising and
ending an exceptional event (60_exceptions.md R261, R263, R269), the descriptor patch and the descriptor load. -/

namespace Sys2Proof.Machine

/-! ### Indexed reads and writes -/

def Lanes.get {α : Type} (v : Lanes α) : Lane → α
  | .lane0 => v.l0
  | .lane1 => v.l1
  | .lane2 => v.l2

def Lanes.set {α : Type} (v : Lanes α) (l : Lane) (x : α) : Lanes α :=
  match l with
  | .lane0 => { v with l0 := x }
  | .lane1 => { v with l1 := x }
  | .lane2 => { v with l2 := x }

def Slots.get {α : Type} (v : Slots α) : Slot → α
  | .slot0 => v.b0
  | .slot1 => v.b1
  | .slot2 => v.b2
  | .slot3 => v.b3

def Lists.get {α : Type} (v : Lists α) : LineState → α
  | .frontPorch => v.fp
  | .sync => v.sync
  | .backPorch => v.bp
  | .active => v.active

/-- DESC[s][l][b] (R40). -/
def descAt (d : DescRam) (s : LineState) (l : Lane) (b : Slot) : Descriptor :=
  ((d.get s).get l).get b

/-- The lane after this one in the lockstep order; after lane 2 comes lane 0 (R222). -/
def nextLane : Lane → Lane
  | .lane0 => .lane1
  | .lane1 => .lane2
  | .lane2 => .lane0

/-- SLOT + 1, where there is one (R225). -/
def nextSlot : Slot → Option Slot
  | .slot0 => some .slot1
  | .slot1 => some .slot2
  | .slot2 => some .slot3
  | .slot3 => none

/-! ### Addresses -/

/-- P_BASE (R9, R70). -/
def pBase (p : Params) : Word := p.basePage ++ 0x000#12

/-- TX_FIFO_DEPTH (R9, R222). -/
def fifoDepth (p : Params) : Nat := p.extraFifoDepth + 1

/-- MEM_ADMIT(addr) (R80). -/
def memAdmits (p : Params) (addr : Word) : Bool :=
  p.memAdmit.any fun r => decide (r.first.toNat ≤ addr.toNat) && decide (addr.toNat ≤ r.last.toNat)

/-- P_BASE <= addr < P_BASE + 0x1000 (R70, R80). -/
def inWindow (p : Params) (addr : Word) : Bool := addr.extractLsb' 12 20 == p.basePage

/-- addr - P_BASE, for an address of the window. -/
def windowOffset (addr : Word) : Offset := addr.extractLsb' 0 12

/-! ### System memory -/

/-- What an address reads as that nothing lists: the contents of system memory before any write, which the
memory oracle answers (R8, R80; log 6). An address the parameter does not name stands for 0x00 there. -/
def oracleByte (p : Params) (a : Nat) : Byte := (p.sysMem.lookup (BitVec.ofNat 32 a)).getD 0x00#8

/-- The byte at an address; `bg` is what an address nothing lists reads as. -/
def Memory.read (bg : Nat → Byte) : Memory → Nat → Byte
  | [], a => bg a
  | (k, v) :: rest, a => if a = k then v else Memory.read bg rest a

/-- One cell in front of a listing, left out where its byte is what an unlisted address reads as. -/
def Memory.put (bg : Nat → Byte) (a : Nat) (b : Byte) (rest : Memory) : Memory :=
  if b = bg a then rest else (a, b) :: rest

/-- Write one byte, keeping the canonical form. -/
def Memory.write (bg : Nat → Byte) : Memory → Nat → Byte → Memory
  | [], a, b => Memory.put bg a b []
  | (k, v) :: rest, a, b =>
    if a < k then Memory.put bg a b ((k, v) :: rest)
    else if a = k then Memory.put bg a b rest
    else (k, v) :: Memory.write bg rest a b

/-- All addresses are at least `lo` and below `2^32`, rise strictly, and no cell lists what its address reads as
unlisted. -/
def Memory.wfFrom (bg : Nat → Byte) (lo : Nat) : Memory → Bool
  | [] => true
  | (k, v) :: rest =>
    decide (lo ≤ k) && decide (k < 2 ^ 32) && decide (v ≠ bg k) && Memory.wfFrom bg (k + 1) rest

/-- The canonical form of a listing. -/
def Memory.wf (bg : Nat → Byte) (m : Memory) : Bool := Memory.wfFrom bg 0 m

/-- The little-endian 32-bit word at a byte address (R72). -/
def Memory.readWord (bg : Nat → Byte) (m : Memory) (a : Nat) : Word :=
  m.read bg (a + 3) ++ m.read bg (a + 2) ++ m.read bg (a + 1) ++ m.read bg a

/-- Write the low `n` bytes of a word, little-endian (R72). -/
def Memory.writeBytes (bg : Nat → Byte) (m : Memory) (a : Nat) (v : Word) : Nat → Memory
  | 0 => m
  | n + 1 => Memory.write bg (Memory.writeBytes bg m a v n) (a + n) (v.extractLsb' (8 * n) 8)

/-- The byte of system memory at an address now (R80, R81). -/
def memByte (s : State) (a : Nat) : Byte := s.mem.read (oracleByte s.params) a

/-- The word of system memory at an address now (R72, R80, R81). -/
def memWord (s : State) (a : Nat) : Word := s.mem.readWord (oracleByte s.params) a

/-- The listing of system memory is in its canonical form. -/
def memCanonical (s : State) : Bool := s.mem.wf (oracleByte s.params)

/-- MemWrite: the low bytes of a word stored in system memory, little-endian, and nothing else changed
(R13, R72). -/
def storeMem (width : AccessWidth) (addr v : Word) (s : State) : State :=
  { s with mem := s.mem.writeBytes (oracleByte s.params) addr.toNat v width.bytes }

/-! ### Exceptional events: entry (R261, R263, R268) and end (R27, R269) -/

/-- The CmdError causes (R262). -/
inductive CmdCause
  | reservedOpcode
  | reservedBits
  | badConfig
  | notBuilt
  | running
  | misaligned
  | lenMismatch
  | srcUnset
  | notRunning
  | startRefused
  deriving DecidableEq, Repr

/-- The cause codes of R262. -/
def cmdCauseCode : CmdCause → Byte
  | .reservedOpcode => 0x01#8
  | .reservedBits => 0x02#8
  | .badConfig => 0x03#8
  | .notBuilt => 0x04#8
  | .running => 0x05#8
  | .misaligned => 0x06#8
  | .lenMismatch => 0x07#8
  | .srcUnset => 0x08#8
  | .notRunning => 0x09#8
  | .startRefused => 0x0A#8

/-- TxFault cause BUS_ERROR (R263). -/
def busErrorCode : Byte := 0x01#8

/-- STATUS after `raise CmdError(cause)`: the first cause since the last clear stays (R261). -/
def statusAfterCmdError (c : CmdCause) (st : Status) : Status :=
  { st with
    errCause := if st.cmdErr then st.errCause else cmdCauseCode c
    cmdErr := true }

/-- `raise CmdError(cause)`: the flag and the cause, and no other effect (R261). -/
def cmdError (c : CmdCause) (s : State) : State :=
  { s with status := statusAfterCmdError c s.status }

/-- `raise TxFault(BUS_ERROR)`: the flag and the cause, and no other effect; FETCHER and EMITTER are disabled
from now on (R263). -/
def txFault (s : State) : State :=
  { s with status := { s.status with txFault := true, txFaultCause := busErrorCode } }

/-- STATUS after a HOST write of `v` to it: W1C on bits 0 to 4, bit 4 also clears ERR_CAUSE, bits 5 to 31
ignored (R27). -/
def statusAfterWrite (v : Word) (st : Status) : Status :=
  { st with
    lineIrq := st.lineIrq && !v.getLsbD 0
    missed := st.missed && !v.getLsbD 1
    irqOvr := st.irqOvr && !v.getLsbD 2
    unbal := st.unbal && !v.getLsbD 3
    cmdErr := st.cmdErr && !v.getLsbD 4
    errCause := if v.getLsbD 4 then 0x00#8 else st.errCause }

/-- The HOST's write to STATUS: how it acknowledges an interrupt and ends an error (R27, R269). -/
def writeStatus (v : Word) (s : State) : State :=
  { s with status := statusAfterWrite v s.status }

/-! ### Results, patch and load -/

/-- Write RES0 and RES1; the commands that write one write both (R23). -/
def setResults (r0 r1 : Word) (s : State) : State :=
  { s with res0 := r0, res1 := r1 }

/-- The descriptor with another SRC word. -/
def Descriptor.withSrc (d : Descriptor) (src : Word) : Descriptor := { d with src := src }

/-- DESC with the three active-region SRC words of the Active list replaced: lane 0 slot 3, lanes 1 and 2
slot 1 (R194, R200). -/
def patchDesc (d : DescRam) (a0 a1 a2 : Word) : DescRam :=
  { d with
    active :=
      { l0 := { d.active.l0 with b3 := d.active.l0.b3.withSrc a0 }
        l1 := { d.active.l1 with b1 := d.active.l1.b1.withSrc a1 }
        l2 := { d.active.l2 with b1 := d.active.l2.b1.withSrc a2 } } }

/-- The patch of R200: lane l's SRC is buffer_ptr + 4*l*lane_stride modulo 2^32, and SRC_VALID is set. -/
def patchActive (ptr stride : Word) (s : State) : State :=
  { s with
    desc := patchDesc s.desc ptr (ptr + 4#32 * stride) (ptr + 8#32 * stride)
    status := { s.status with srcValid := true } }

/-- The choice of the next line's list: NEXT_LIST and ARMED (R228, R230). -/
def submitList (list : LineState) (s : State) : State :=
  { s with nextList := list, armed := true }

/-- What `Load(l, b)` copies from a list: SLOT, REM, ADDR, DC, and not DST (R223). -/
def snapshot (d : DescRam) (list : LineState) (l : Lane) (b : Slot) : LaneFetch :=
  { slot := b
    rem := (descAt d list l b).count
    addr := (descAt d list l b).src
    dc := (descAt d list l b).dctrl }

/-- `Load(l, 0)` for the three lanes (R220, R226). -/
def loadFirstSlots (d : DescRam) (list : LineState) : Lanes LaneFetch :=
  ⟨snapshot d list .lane0 .slot0, snapshot d list .lane1 .slot0, snapshot d list .lane2 .slot0⟩

/-- `Load(l, b)` from the current list (R223). -/
def loadLane (l : Lane) (b : Slot) (s : State) : State :=
  { s with
    fetcher :=
      { s.fetcher with lanes := s.fetcher.lanes.set l (snapshot s.desc s.curList l b) } }

end Sys2Proof.Machine
end

