-- ==== Sys2Proof/Machine/Operands.lean ====
section
/-! DEFINITION. Operand forms (30_encoding.md R102), the number readings of 00_scope.md R11, and the validity
predicates of the configuration (10_state.md R42). -/

namespace Sys2Proof.Machine

/-- `s32(v)`: two's complement (R11). -/
def s32 (v : Word) : Int := v.toInt

/-- `u32(i)`: the 32-bit pattern of an integer modulo 2^32 (R11). -/
def u32 (i : Int) : Word := BitVec.ofInt 32 i

/-- `popcount(v)`: the number of 1 bits (R11). -/
def popcount {n : Nat} (v : BitVec n) : Nat := (List.range n).countP fun i => v.getLsbD i

/-- `addr mod 4 == 0`. -/
def wordAligned (addr : Word) : Bool := addr.toNat % 4 == 0

/-- discrepancy (ENC): ARG0 read as s32 (R102). -/
def opDiscrepancy (s : State) : Int := s32 s.arg0

/-- offset (TIM_INDEX): ARG0, unsigned (R102). -/
def opIndexOffset (s : State) : Nat := s.arg0.toNat

/-- buffer_ptr (DMA_UPDATE, TX_SUBMIT_ACTIVE): ARG0, a byte address (R102). -/
def opBufferPtr (s : State) : Word := s.arg0

/-- lane_stride (DMA_UPDATE) and len (TX_SUBMIT_ACTIVE): ARG1, a count of words (R102). -/
def opWordCount (s : State) : Word := s.arg1

/-- expected_word_count (TX_WAIT): ARG0, unsigned (R102). -/
def opExpectedCount (s : State) : Nat := s.arg0.toNat

/-- V_VALID: every vertical count is at least 1 (R42). -/
def vValid (t : Timing) : Bool :=
  decide (1 ≤ t.vFp.toNat) && decide (1 ≤ t.vSync.toNat) && decide (1 ≤ t.vBp.toNat)
    && decide (1 ≤ t.vActive.toNat)

/-- A horizontal width of H_VALID: at least 2 and even (R42). -/
def widthValid (w : Half) : Bool := decide (2 ≤ w.toNat) && decide (w.toNat % 2 = 0)

/-- H_VALID (R42). -/
def hValid (t : Timing) : Bool :=
  widthValid t.hFp && widthValid t.hSync && widthValid t.hBp && widthValid t.hActive

end Sys2Proof.Machine
end

