-- ==== Sys2Proof/Machine/Flags.lean ====
section
/-! DEFINITION. The flags (10_state.md R26, R43, R59): how each is computed and how CTRL and STATUS read as
words. -/

namespace Sys2Proof.Machine

/-- The IRQ output: LINE_IRQ and IRQ_EN (R59, R266). -/
def irqOutput (s : State) : Bool := s.status.lineIrq && s.ctrl.irqEn

/-- CTRL as a HOST read gives it (R25). -/
def ctrlWord (c : Ctrl) : Word := 0#30 ++ BitVec.ofBool c.irqEn ++ BitVec.ofBool c.run

/-- STATUS as a HOST read gives it (R26). -/
def statusWord (st : Status) : Word :=
  0#8 ++ st.txFaultCause ++ st.errCause ++ BitVec.ofBool st.srcValid ++ BitVec.ofBool st.built
    ++ BitVec.ofBool st.txFault ++ BitVec.ofBool st.cmdErr ++ BitVec.ofBool st.unbal
    ++ BitVec.ofBool st.irqOvr ++ BitVec.ofBool st.missed ++ BitVec.ofBool st.lineIrq

/-- UNBAL is set when ENC_PAIR's residual is nonzero, and never cleared there (R138, R141). -/
def flagUnbal (residual : Int) (st : Status) : Status :=
  { st with unbal := st.unbal || decide (residual ≠ 0) }

/-- Raising LINE_IRQ; IRQ_OVR if it was 1 already (R225, R266). -/
def flagLineIrq (st : Status) : Status :=
  { st with lineIrq := true, irqOvr := st.irqOvr || st.lineIrq }

/-- MISSED is set by a start or a line crossing that finds ARMED = 0 (R220, R226, R231). -/
def flagMissed (armed : Bool) (st : Status) : Status :=
  { st with missed := st.missed || !armed }

/-- DMA_SETUP: BUILT <- 1, SRC_VALID <- 0 (R195). -/
def flagBuilt (st : Status) : Status := { st with built := true, srcValid := false }

/-- A write to an H width, POL or TX_DST: BUILT <- 0, SRC_VALID <- 0 (R38). -/
def flagUnbuilt (st : Status) : Status := { st with built := false, srcValid := false }

/-! ### DCTRL bits (R41) -/

/-- INCR_READ: the read address steps by 4 after each word. -/
def dctrlIncr (dc : Word) : Bool := dc.getLsbD 0

/-- IRQ: completing the block raises LINE_IRQ. -/
def dctrlIrq (dc : Word) : Bool := dc.getLsbD 1

/-- LAST: the last block of the lane's line. -/
def dctrlLast (dc : Word) : Bool := dc.getLsbD 2

/-- VALID: the slot holds a descriptor. -/
def dctrlValid (dc : Word) : Bool := dc.getLsbD 3

end Sys2Proof.Machine
end

