-- ==== Sys2Proof/Machine/Chain.lean ====
section
/-! DEFINITION. The scanline DMA-chain builder and descriptor patcher (43_dma_chain.md) and its two commands. -/

namespace Sys2Proof.Machine

/-! ### Building blocks (R191 to R194) -/

/-- symaddr(i) = u32(P_BASE + 0x100 + 4*i) (R191). -/
def symAddr (p : Params) (i : BitVec 2) : Word := pBase p + 0x100#32 + 4#32 * i.setWidth 32

/-- sym(h, v): the lane-0 control index; C0 carries hsync and C1 vsync, each in its POL polarity (R192). -/
def syncIndex (pol : BitVec 2) (h v : Bool) : BitVec 2 :=
  let c0 := if pol.getLsbD 0 then h else !h
  let c1 := if pol.getLsbD 1 then v else !v
  BitVec.ofBool c1 ++ BitVec.ofBool c0

/-- v(s): 1 on the Sync list only (R192). -/
def vPulse (list : LineState) : Bool := list == .sync

/-- idle(s): lane 0 outside the horizontal pulse (R192). -/
def idleIndex (pol : BitVec 2) (list : LineState) : BitVec 2 := syncIndex pol false (vPulse list)

/-- pulse(s): lane 0 during the horizontal pulse (R192). -/
def pulseIndex (pol : BitVec 2) (list : LineState) : BitVec 2 := syncIndex pol true (vPulse list)

/-- COUNT of a block covering a width in pixels: two pixels a word (R194). -/
def widthWords (w : Half) : Word := BitVec.ofNat 32 (w.toNat / 2)

/-- The words of the combined inactive period, HB of R195. -/
def inactiveCount (t : Timing) : Nat := (t.hFp.toNat + t.hSync.toNat + t.hBp.toNat) / 2

/-- LINE_WORDS: the words of one whole line on one lane (R198). -/
def lineWords (t : Timing) : Nat :=
  (t.hFp.toNat + t.hSync.toNat + t.hBp.toNat + t.hActive.toNat) / 2

/-! ### DCTRL values (R41, R195) -/

/-- VALID. -/
def dcBlank : Word := 0x8#32

/-- VALID and IRQ. -/
def dcBlankIrq : Word := 0xA#32

/-- VALID and LAST. -/
def dcLast : Word := 0xC#32

/-- VALID, LAST and INCR_READ. -/
def dcLastIncr : Word := 0xD#32

/-- D0 of R195: the active-region DCTRL of a list. -/
def activeDctrl (list : LineState) : Word := if list = .active then dcLastIncr else dcLast

/-! ### The lists (R195) -/

/-- Lane 0 of a list: front porch, sync pulse, back porch with IRQ, active region (R195, R196). -/
def buildLane0 (p : Params) (t : Timing) (dst : Word) (list : LineState) : Slots Descriptor :=
  let idle := symAddr p (idleIndex t.pol list)
  { b0 := ⟨idle, dst, widthWords t.hFp, dcBlank⟩
    b1 := ⟨symAddr p (pulseIndex t.pol list), dst, widthWords t.hSync, dcBlank⟩
    b2 := ⟨idle, dst, widthWords t.hBp, dcBlankIrq⟩
    b3 := ⟨if list = .active then 0#32 else idle, dst, widthWords t.hActive, activeDctrl list⟩ }

/-- Lane 1 or 2 of a list: combined inactive period, active region, two unused slots (R195, R197). -/
def buildLane12 (p : Params) (t : Timing) (dst : Word) (list : LineState) : Slots Descriptor :=
  { b0 := ⟨symAddr p 0#2, dst, BitVec.ofNat 32 (inactiveCount t), dcBlank⟩
    b1 := ⟨if list = .active then 0#32 else symAddr p 0#2, dst, widthWords t.hActive, activeDctrl list⟩
    b2 := .zero
    b3 := .zero }

/-- One list (R195). -/
def buildList (p : Params) (t : Timing) (dst : Lanes Word) (list : LineState) : Lanes (Slots Descriptor) :=
  ⟨buildLane0 p t dst.l0 list, buildLane12 p t dst.l1 list, buildLane12 p t dst.l2 list⟩

/-- The four lists (R195). -/
def buildDesc (p : Params) (t : Timing) (dst : Lanes Word) : DescRam :=
  ⟨buildList p t dst .frontPorch, buildList p t dst .sync, buildList p t dst .backPorch,
    buildList p t dst .active⟩

/-! ### The commands -/

/-- DMA_SETUP (R195). -/
def execDmaSetup (s : State) : Result :=
  if s.ctrl.run then .next (cmdError .running s)
  else if (vValid s.timing && hValid s.timing) = false then .next (cmdError .badConfig s)
  else .next { s with desc := buildDesc s.params s.timing s.txDst, status := flagBuilt s.status }

/-- DMA_UPDATE (R200). -/
def execDmaUpdate (s : State) : Result :=
  if s.status.built = false then .next (cmdError .notBuilt s)
  else if wordAligned (opBufferPtr s) = false then .next (cmdError .misaligned s)
  else .next (patchActive (opBufferPtr s) (opWordCount s) s)

end Sys2Proof.Machine
end

