-- ==== Sys2Proof/Machine/DisplayTiming.lean ====
section
/-! DEFINITION. The display-timing state machine (42_timing.md) and its three commands. -/

namespace Sys2Proof.Machine

/-- count(s): the lines of a line-state (R160). -/
def lineCount (t : Timing) : LineState → Nat
  | .frontPorch => t.vFp.toNat
  | .sync => t.vSync.toNat
  | .backPorch => t.vBp.toNat
  | .active => t.vActive.toNat

/-- next(s): FrontPorch, Sync, BackPorch, Active, and back to FrontPorch (R160). -/
def nextLineState : LineState → LineState
  | .frontPorch => .sync
  | .sync => .backPorch
  | .backPorch => .active
  | .active => .frontPorch

/-- before(s): the lines of the frame before a line-state (R160). -/
def linesBefore (t : Timing) : LineState → Nat
  | .frontPorch => 0
  | .sync => t.vFp.toNat
  | .backPorch => t.vFp.toNat + t.vSync.toNat
  | .active => t.vFp.toNat + t.vSync.toNat + t.vBp.toNat

/-- BLANK: the combined blanking length (R160). -/
def blankLines (t : Timing) : Nat := linesBefore t .active

/-- TOTAL: the lines of a frame (R160). -/
def totalLines (t : Timing) : Nat := blankLines t + t.vActive.toNat

/-- pos: the frame position of the current line (R160). -/
def framePos (s : State) : Nat := linesBefore s.timing s.vstate + s.vctr.toNat

/-- The value y of R165, on integers with no wrap. -/
def activeRow (s : State) : Int :=
  (framePos s : Int) + (opIndexOffset s : Int) - (blankLines s.timing : Int)

/-- TIM_RESET (R163). -/
def execTimReset (s : State) : Result :=
  .next { s with vstate := .frontPorch, vctr := 0#32 }

/-- TIM_ADVANCE (R162). -/
def execTimAdvance (s : State) : Result :=
  if vValid s.timing = false then .next (cmdError .badConfig s)
  else if lineCount s.timing s.vstate ≤ s.vctr.toNat + 1 then
    .next { s with vstate := nextLineState s.vstate, vctr := 0#32 }
  else .next { s with vctr := s.vctr + 1#32 }

/-- TIM_INDEX (R165): Some(y) as RES1 = 1 and RES0 = y, None as both 0. -/
def execTimIndex (s : State) : Result :=
  if vValid s.timing = false then .next (cmdError .badConfig s)
  else if 0 ≤ activeRow s ∧ activeRow s < (s.timing.vActive.toNat : Int) then
    .next (setResults (u32 (activeRow s)) 1#32 s)
  else .next (setResults 0#32 0#32 s)

end Sys2Proof.Machine
end

