-- ==== Sys2Proof/Machine/Encoder.lean ====
section
/-! DEFINITION. The TMDS symbol encoder (41_tmds_encoder.md) and its four commands. The encoder holds no
state (R131). -/

namespace Sys2Proof.Machine

/-! ### The encode function (R132 to R135) -/

/-- XNOR rather than XOR in stage 1 (R133). -/
def chooseXnor (D : Byte) : Bool :=
  decide (4 < popcount D) || (decide (popcount D = 4) && !D.getLsbD 0)

/-- q_m[i], for i in 0..7: each bit against the previous output bit (R133). -/
def qmBit (xnor : Bool) (D : Byte) : Nat → Bool
  | 0 => D.getLsbD 0
  | i + 1 =>
    let x := qmBit xnor D i ^^ D.getLsbD (i + 1)
    if xnor then !x else x

/-- q_m[7:0] (R133). -/
def qmByte (D : Byte) : Byte :=
  let q := qmBit (chooseXnor D) D
  BitVec.ofBoolListLE [q 0, q 1, q 2, q 3, q 4, q 5, q 6, q 7]

/-- q_m[8]: 1 for XOR, 0 for XNOR (R133). -/
def qmXorFlag (D : Byte) : Bool := !chooseXnor D

/-- Stage 2: whether the data bits are inverted (R134). -/
def chooseInvert (d : Int) (D : Byte) : Bool :=
  let n1 := popcount (qmByte D)
  if d = 0 ∨ n1 = 4 then !qmXorFlag D
  else if (0 < d ∧ 4 < n1) ∨ (d < 0 ∧ n1 < 4) then true
  else false

/-- q_out[9:0]: the inversion flag, q_m[8], and the data bits (R134). -/
def tmdsSymbol (d : Int) (D : Byte) : Symbol :=
  let invert := chooseInvert d D
  BitVec.ofBool invert ++ BitVec.ofBool (qmXorFlag D) ++ (if invert then ~~~qmByte D else qmByte D)

/-- Stage 3: d' = d + popcount(q_out) - 5 (R135). -/
def tmdsDiscrepancy (d : Int) (D : Byte) : Int := d + popcount (tmdsSymbol d D) - 5

/-! ### Pairs (R130, R137) -/

/-- `pair(s0, s1)`: s0 in bits [9:0], s1 in bits [19:10], bits [31:20] zero (R130). -/
def pairWord (s0 s1 : Symbol) : Word := 0#12 ++ s1 ++ s0

/-- The pair word of `encode_pair(b0, b1)`: both from discrepancy 0, the second threaded from the first
(R137). -/
def encodePairWord (b0 b1 : Byte) : Word :=
  pairWord (tmdsSymbol 0 b0) (tmdsSymbol (tmdsDiscrepancy 0 b0) b1)

/-- The residual of `encode_pair(b0, b1)` (R137). -/
def encodePairResidual (b0 b1 : Byte) : Int := tmdsDiscrepancy (tmdsDiscrepancy 0 b0) b1

/-! ### Control symbols (R39, R142) -/

/-- CTRL_SYMBOL[c], c = C1, C0 (R142). -/
def ctrlSymbol (c : BitVec 2) : Symbol :=
  if c = 0#2 then 0x354#10
  else if c = 1#2 then 0x0AB#10
  else if c = 2#2 then 0x154#10
  else 0x2AB#10

/-- SYMWc: the control symbol twice (R39). -/
def symw (c : BitVec 2) : Word := pairWord (ctrlSymbol c) (ctrlSymbol c)

/-! ### The commands -/

/-- ENC (R136). -/
def execEnc (byte : Byte) (s : State) : Result :=
  .next (setResults ((tmdsSymbol (opDiscrepancy s) byte).setWidth 32)
    (u32 (tmdsDiscrepancy (opDiscrepancy s) byte)) s)

/-- ENC_PAIR (R138). -/
def execEncPair (b0 b1 : Byte) (s : State) : Result :=
  .next
    { setResults (encodePairWord b0 b1) (u32 (encodePairResidual b0 b1)) s with
      status := flagUnbal (encodePairResidual b0 b1) s.status }

/-- ENC_APPROX (R139): the pair of the byte and the byte xor 1; UNBAL is not touched. -/
def execEncApprox (byte : Byte) (s : State) : Result :=
  .next (setResults (encodePairWord byte (byte ^^^ 0x01#8))
    (u32 (encodePairResidual byte (byte ^^^ 0x01#8))) s)

/-- CTRL_SYM (R143). -/
def execCtrlSym (c : BitVec 2) (s : State) : Result :=
  .next (setResults ((ctrlSymbol c).setWidth 32) (symw c) s)

end Sys2Proof.Machine
end

