-- ==== Sys2Proof/Machine/Transmit.lean ====
section
/-! DEFINITION. The transmit engine's commands (44_transmit.md): NOP, TX_SUBMIT, TX_SUBMIT_ACTIVE, TX_WAIT. -/

namespace Sys2Proof.Machine

/-- NOP (R229). -/
def execNop (s : State) : Result := .next s

/-- TX_SUBMIT (R228). -/
def execTxSubmit (list : LineState) (s : State) : Result :=
  if s.status.built = false then .next (cmdError .notBuilt s)
  else if list = .active ∧ s.status.srcValid = false then .next (cmdError .srcUnset s)
  else .next (submitList list s)

/-- TX_SUBMIT_ACTIVE (R230): the patch with lane_stride = len, then the Active list submitted. -/
def execTxSubmitActive (s : State) : Result :=
  if s.status.built = false then .next (cmdError .notBuilt s)
  else if wordAligned (opBufferPtr s) = false then .next (cmdError .misaligned s)
  else if (opWordCount s).toNat ≠ s.timing.hActive.toNat / 2 then .next (cmdError .lenMismatch s)
  else .next (submitList .active (patchActive (opBufferPtr s) (opWordCount s) s))

/-! ### TX_WAIT (R232) -/

/-- FETCHCNT has reached ARG0, compared unsigned (R232). -/
def countReached (s : State) : Bool := decide (opExpectedCount s ≤ s.fetchCnt.toNat)

/-- The hold's condition: FETCHCNT has reached ARG0, or a TxFault has halted the engine (R232). -/
def waitOver (s : State) : Bool := countReached s || s.status.txFault

/-- The CMD write of a TX_WAIT holds: the HOST takes no step until `waitOver` (R232, log 12). -/
def beginHold (s : State) : State := { s with host := { s.host with holding := true } }

/-- The hold has ended. -/
def endHold (s : State) : State := { s with host := { s.host with holding := false } }

/-- TX_WAIT (R232): refused unless the engine runs unfaulted; completes at once where the count is reached;
otherwise it begins to hold. -/
def execTxWait (s : State) : Result :=
  if s.ctrl.run = false ∨ s.status.txFault = true then .next (cmdError .notRunning s)
  else if countReached s then .next s
  else .next (beginHold s)

/-- The HOST's step while a TX_WAIT holds: nothing until `waitOver`; then NOT_RUNNING after a TxFault, or the
completion (R232). -/
def resumeTxWait (s : State) : State :=
  if s.status.txFault then endHold (cmdError .notRunning s)
  else if countReached s then endHold s
  else s

end Sys2Proof.Machine
end

