-- ==== Sys2Proof/Machine/Dispatch.lean ====
section
/-! DEFINITION. The meaning of every command (30_encoding.md R103), one arm a constructor. -/

namespace Sys2Proof.Machine

def exec (i : Instr) (s : State) : Host.Outcome State Fault Refusal :=
  match i with
  | .nop => Sys2Proof.Machine.execNop s
  | .enc byte => Sys2Proof.Machine.execEnc byte s
  | .encPair b0 b1 => Sys2Proof.Machine.execEncPair b0 b1 s
  | .encApprox byte => Sys2Proof.Machine.execEncApprox byte s
  | .ctrlSym c => Sys2Proof.Machine.execCtrlSym c s
  | .timReset => Sys2Proof.Machine.execTimReset s
  | .timAdvance => Sys2Proof.Machine.execTimAdvance s
  | .timIndex => Sys2Proof.Machine.execTimIndex s
  | .dmaSetup => Sys2Proof.Machine.execDmaSetup s
  | .dmaUpdate => Sys2Proof.Machine.execDmaUpdate s
  | .txSubmit list => Sys2Proof.Machine.execTxSubmit list s
  | .txSubmitActive => Sys2Proof.Machine.execTxSubmitActive s
  | .txWait => Sys2Proof.Machine.execTxWait s

end Sys2Proof.Machine
end

