-- ==== Sys2Proof/Machine/RegFile.lean ====
section
/-! DEFINITION. The register window (20_memory.md R71): which register stands at which offset, and what a read
of each returns (R75). -/

namespace Sys2Proof.Machine

/-- The configuration registers (R34 to R38). -/
inductive CfgReg
  | hFp
  | hSync
  | hBp
  | hActive
  | vFp
  | vSync
  | vBp
  | vActive
  | pol
  | bitClkKhz
  | txDst (l : Lane)
  deriving DecidableEq, Repr

/-- The words of a descriptor slot (R41). -/
inductive DescWord
  | src
  | dst
  | count
  | dctrl
  deriving DecidableEq, Repr

/-- The registers of the window (R71). -/
inductive Reg
  | ctrl
  | status
  | cmd
  | arg0
  | arg1
  | res0
  | res1
  | vstate
  | vctr
  | nextList
  | curList
  | wordCnt
  | fetchCnt
  | cfg (r : CfgReg)
  | symw (c : BitVec 2)
  | desc (list : LineState) (l : Lane) (b : Slot) (w : DescWord)
  deriving DecidableEq, Repr

/-! ### The map (R40, R71) -/

/-- The offsets of R71 below DESC. -/
def regTable : List (Nat × Reg) :=
  [ (0x000, .ctrl), (0x004, .status), (0x008, .cmd), (0x00C, .arg0), (0x010, .arg1),
    (0x014, .res0), (0x018, .res1), (0x01C, .vstate), (0x020, .vctr),
    (0x024, .nextList), (0x028, .curList), (0x02C, .wordCnt), (0x030, .fetchCnt),
    (0x040, .cfg .hFp), (0x044, .cfg .hSync), (0x048, .cfg .hBp), (0x04C, .cfg .hActive),
    (0x050, .cfg .vFp), (0x054, .cfg .vSync), (0x058, .cfg .vBp), (0x05C, .cfg .vActive),
    (0x060, .cfg .pol), (0x064, .cfg .bitClkKhz),
    (0x068, .cfg (.txDst .lane0)), (0x06C, .cfg (.txDst .lane1)), (0x070, .cfg (.txDst .lane2)),
    (0x100, .symw 0#2), (0x104, .symw 1#2), (0x108, .symw 2#2), (0x10C, .symw 3#2) ]

/-- The lane with a number. -/
def laneOfNat : Nat → Lane
  | 0 => .lane0
  | 1 => .lane1
  | _ => .lane2

/-- The slot with a number. -/
def slotOfNat : Nat → Slot
  | 0 => .slot0
  | 1 => .slot1
  | 2 => .slot2
  | _ => .slot3

/-- The descriptor word with a number (R40). -/
def descWordOfNat : Nat → DescWord
  | 0 => .src
  | 1 => .dst
  | 2 => .count
  | _ => .dctrl

/-- The descriptor word at a distance `n` from 0x400, with `n = 0xC0*s + 0x40*l + 0x10*b + 4*W` (R40). -/
def descReg (n : Nat) : Reg :=
  .desc (lineStateOfBits (BitVec.ofNat 2 (n / 0xC0))) (laneOfNat (n % 0xC0 / 0x40))
    (slotOfNat (n % 0x40 / 0x10)) (descWordOfNat (n % 0x10 / 4))

/-- The register at an offset; `none` for an unmapped one (R71). -/
def regAt (off : Offset) : Option Reg :=
  if 0x400 ≤ off.toNat ∧ off.toNat < 0x700 then
    if off.toNat % 4 = 0 then some (descReg (off.toNat - 0x400)) else none
  else regTable.lookup off.toNat

/-! ### Reads (R75) -/

/-- A configuration register's value; reserved bits 0 (R34 to R37). -/
def readCfg (s : State) : CfgReg → Word
  | .hFp => s.timing.hFp.setWidth 32
  | .hSync => s.timing.hSync.setWidth 32
  | .hBp => s.timing.hBp.setWidth 32
  | .hActive => s.timing.hActive.setWidth 32
  | .vFp => s.timing.vFp.setWidth 32
  | .vSync => s.timing.vSync.setWidth 32
  | .vBp => s.timing.vBp.setWidth 32
  | .vActive => s.timing.vActive.setWidth 32
  | .pol => s.timing.pol.setWidth 32
  | .bitClkKhz => s.timing.bitClkKhz
  | .txDst l => s.txDst.get l

/-- A word of a descriptor (R41). -/
def descWord (d : Descriptor) : DescWord → Word
  | .src => d.src
  | .dst => d.dst
  | .count => d.count
  | .dctrl => d.dctrl

/-- A register's current value; CMD reads 0 (R24, R75). -/
def readReg (s : State) : Reg → Word
  | .ctrl => ctrlWord s.ctrl
  | .status => statusWord s.status
  | .cmd => 0#32
  | .arg0 => s.arg0
  | .arg1 => s.arg1
  | .res0 => s.res0
  | .res1 => s.res1
  | .vstate => (lineStateBits s.vstate).setWidth 32
  | .vctr => s.vctr
  | .nextList => (lineStateBits s.nextList).setWidth 32
  | .curList => (lineStateBits s.curList).setWidth 32
  | .wordCnt => s.wordCnt
  | .fetchCnt => s.fetchCnt
  | .cfg r => readCfg s r
  | .symw c => symw c
  | .desc list l b w => descWord (descAt s.desc list l b) w

/-- RegRead(off): no side effect; an unmapped offset reads 0 (R75). -/
def regRead (s : State) (off : Offset) : Word :=
  match regAt off with
  | some r => readReg s r
  | none => 0#32

/-! ### Writes of configuration registers (R38) -/

/-- The register's field with a new value; bits above the field are ignored (R34 to R37). -/
def storeCfg (r : CfgReg) (v : Word) (s : State) : State :=
  match r with
  | .hFp => { s with timing := { s.timing with hFp := v.setWidth 16 } }
  | .hSync => { s with timing := { s.timing with hSync := v.setWidth 16 } }
  | .hBp => { s with timing := { s.timing with hBp := v.setWidth 16 } }
  | .hActive => { s with timing := { s.timing with hActive := v.setWidth 16 } }
  | .vFp => { s with timing := { s.timing with vFp := v.setWidth 16 } }
  | .vSync => { s with timing := { s.timing with vSync := v.setWidth 16 } }
  | .vBp => { s with timing := { s.timing with vBp := v.setWidth 16 } }
  | .vActive => { s with timing := { s.timing with vActive := v.setWidth 16 } }
  | .pol => { s with timing := { s.timing with pol := v.setWidth 2 } }
  | .bitClkKhz => { s with timing := { s.timing with bitClkKhz := v } }
  | .txDst l => { s with txDst := s.txDst.set l v }

/-- The registers whose write clears BUILT and SRC_VALID (R38). -/
def clearsBuilt : CfgReg → Bool
  | .hFp => true
  | .hSync => true
  | .hBp => true
  | .hActive => true
  | .vFp => false
  | .vSync => false
  | .vBp => false
  | .vActive => false
  | .pol => true
  | .bitClkKhz => false
  | .txDst _ => true

/-- A HOST write to a configuration register: refused with RUNNING while RUN = 1 (R38). -/
def writeCfg (r : CfgReg) (v : Word) (s : State) : State :=
  if s.ctrl.run then cmdError .running s
  else
    { storeCfg r v s with
      status := if clearsBuilt r then flagUnbuilt s.status else s.status }

end Sys2Proof.Machine
end

