-- ==== Sys2Proof/Machine/Engine.lean ====
section
/-! DEFINITION. The transmit engine (44_transmit.md): start, the FETCHER and the EMITTER. -/

namespace Sys2Proof.Machine

/-! ### Start (R220) -/

/-- Whether a start is refused: not BUILT, not V_VALID, or the Active list chosen with SRC_VALID = 0 (R220). -/
def startRefused (s : State) : Bool :=
  !s.status.built || !vValid s.timing || (s.nextList == .active && !s.status.srcValid)

/-- `Start()` (R220). -/
def startEngine (s : State) : State :=
  { s with
    ctrl := { s.ctrl with run := true }
    wordCnt := 0#32
    fetchCnt := 0#32
    fifo := ⟨[], [], []⟩
    curList := s.nextList
    status := flagMissed s.armed s.status
    armed := false
    fetcher := ⟨loadFirstSlots s.desc s.nextList, .lane0⟩ }

/-- The IRQ_EN bit of a CTRL write, always written (R220). -/
def setIrqEn (en : Bool) (s : State) : State := { s with ctrl := { s.ctrl with irqEn := en } }

/-- A HOST write of `v` to CTRL (R220, R221): RUN is set-only. -/
def writeCtrl (v : Word) (s : State) : State :=
  if v.getLsbD 0 && !s.ctrl.run then
    if startRefused s then cmdError .startRefused (setIrqEn (v.getLsbD 1) s)
    else startEngine (setIrqEn (v.getLsbD 1) s)
  else setIrqEn (v.getLsbD 1) s

/-! ### The FETCHER's reads (R80) -/

/-- What a 32-bit FETCHER read answers. -/
inductive FetchResult
  /-- The word read. -/
  | word (w : Word)
  /-- Neither the window nor MEM_ADMIT: TxFault(BUS_ERROR). -/
  | busError
  /-- Not a multiple of 4: no rule says what is read (R77, log 10). -/
  | misaligned
  deriving DecidableEq, Repr

/-- `MemRead(addr, 4)` (R80): the window through RegRead, admitted system memory, or a bus error. -/
def memRead (s : State) (addr : Word) : FetchResult :=
  if wordAligned addr = false then .misaligned
  else if inWindow s.params addr then .word (regRead s (windowOffset addr))
  else if memAdmits s.params addr then .word (memWord s addr.toNat)
  else .busError

/-! ### FETCHER steps (R222 to R226) -/

/-- A FIFO has room (R222). -/
def fifoHasRoom (p : Params) (q : List Word) : Bool := decide (q.length < fifoDepth p)

/-- FetchEnabled (R222). -/
def fetchEnabled (s : State) : Bool :=
  s.ctrl.run && !s.status.txFault
    && (s.fetcher.fk != .lane0
      || (fifoHasRoom s.params s.fifo.l0 && fifoHasRoom s.params s.fifo.l1
        && fifoHasRoom s.params s.fifo.l2))

/-- One lane of `SlotDone` (R225), on the state and `cross`: a complete block raises LINE_IRQ if it is flagged
IRQ; then it asks for the line crossing if it is LAST, and else the next slot is loaded. `none` where the rules
give no next slot (log 10). -/
def completeLane (l : Lane) (sc : State × Bool) : Option (State × Bool) :=
  let f := sc.1.fetcher.lanes.get l
  if f.rem = 0#32 then
    let s1 : State :=
      { sc.1 with status := if dctrlIrq f.dc then flagLineIrq sc.1.status else sc.1.status }
    if dctrlLast f.dc then some (s1, true)
    else
      match nextSlot f.slot with
      | some b => some (loadLane l b s1, sc.2)
      | none => none
  else some sc

/-- `LineCross()` (R226). -/
def lineCross (s : State) : State :=
  { s with
    curList := s.nextList
    status := flagMissed s.armed s.status
    armed := false
    fetcher := { s.fetcher with lanes := loadFirstSlots s.desc s.nextList } }

/-- FETCHCNT + 1 modulo 2^32 (R225). -/
def countSlot (s : State) : State := { s with fetchCnt := s.fetchCnt + 1#32 }

/-- `SlotDone()` (R225), lanes in order, then the crossing. -/
def slotDone (s : State) : Result :=
  match ((completeLane .lane0 (countSlot s, false)).bind (completeLane .lane1)).bind
      (completeLane .lane2) with
  | some (s1, cross) => .next (if cross then lineCross s1 else s1)
  | none => .fault .loadPastSlots

/-- One lane's fetch state after a word of its block is read (R224). -/
def advanceFetch (f : LaneFetch) : LaneFetch :=
  { f with
    addr := if dctrlIncr f.dc then f.addr + 4#32 else f.addr
    rem := f.rem - 1#32 }

/-- The word appended to lane `l`'s FIFO, its fetch state advanced, FK moved on (R224). -/
def pushWord (l : Lane) (w : Word) (s : State) : State :=
  { s with
    fifo := s.fifo.set l (s.fifo.get l ++ [w])
    fetcher :=
      { lanes := s.fetcher.lanes.set l (advanceFetch (s.fetcher.lanes.get l))
        fk := nextLane l } }

/-- `FetchRead()` (R224): a TxFault ends the step with no other effect; lane 2's read does the slot
bookkeeping in the same step. -/
def fetchRead (s : State) : Result :=
  let l := s.fetcher.fk
  let f := s.fetcher.lanes.get l
  match memRead s f.addr with
  | .misaligned => .fault .fetchMisaligned
  | .busError => .next (txFault s)
  | .word w =>
    if f.rem = 0#32 then .fault .fetchPastBlock
    else if l = .lane2 then slotDone (pushWord l w s)
    else .next (pushWord l w s)

/-! ### EMITTER steps (R233 to R236) -/

/-- EmitEnabled (R233). -/
def emitEnabled (s : State) : Bool :=
  s.ctrl.run && !s.status.txFault && !s.fifo.l0.isEmpty && !s.fifo.l1.isEmpty && !s.fifo.l2.isEmpty

/-- Bits [19:0] of a word; bits [31:20] are dropped (R235). -/
def emitBits (w : Word) : Pair := w.extractLsb' 0 20

/-- `Emit()` (R235): the head of each FIFO onto OUT, WORDCNT + 1 modulo 2^32. -/
def emitTriple (s : State) : State :=
  match s.fifo.l0, s.fifo.l1, s.fifo.l2 with
  | w0 :: q0, w1 :: q1, w2 :: q2 =>
    { s with
      fifo := ⟨q0, q1, q2⟩
      out := s.out ++ [⟨emitBits w0, emitBits w1, emitBits w2⟩]
      wordCnt := s.wordCnt + 1#32 }
  | _, _, _ => s

/-- The symbols of one pair in the order they are sent: bits [9:0], then bits [19:10] (R236). -/
def pairSymbols (t : Pair) : List Symbol := [t.extractLsb' 0 10, t.extractLsb' 10 10]

/-- One lane's output as symbols, in the order sent (R236). -/
def laneSymbols (out : List (Lanes Pair)) (l : Lane) : List Symbol :=
  (out.map fun t => pairSymbols (t.get l)).flatten

/-- One lane's output as bits on the wire: each symbol bit 0 first (R236). -/
def laneBits (out : List (Lanes Pair)) (l : Lane) : List Bool :=
  ((laneSymbols out l).map fun q => (List.range 10).map fun i => q.getLsbD i).flatten

end Sys2Proof.Machine
end

