-- ==== Sys2Proof/Machine/HostBus.lean ====
section
/-! DEFINITION. The HOST's accesses (20_memory.md R74 to R76, 30_encoding.md R100), the RESET agent
(70_reset_and_hazards.md R290), and which agent moves next (R81, log 2). -/

namespace Sys2Proof.Machine

/-! ### Register writes (R76) -/

/-- The CmdError of a refused command word (R104). -/
def decodeCause : DecodeError → CmdCause
  | .reservedOpcode => .reservedOpcode
  | .reservedBits => .reservedBits

/-- A HOST write of `w` to CMD decodes and executes it in the same step (R100); a word the decoder refuses
raises its CmdError (R104, R105). -/
def runCommand (w : Word) (s : State) : Result :=
  match decode w with
  | .ok i => exec i s
  | .error e => .next (cmdError (decodeCause e) s)

/-- A HOST write to a register; read-only registers ignore it (R76). -/
def writeReg (r : Reg) (v : Word) (s : State) : Result :=
  match r with
  | .ctrl => .next (writeCtrl v s)
  | .status => .next (writeStatus v s)
  | .cmd => runCommand v s
  | .arg0 => .next { s with arg0 := v }
  | .arg1 => .next { s with arg1 := v }
  | .res0 => .next s
  | .res1 => .next s
  | .vstate => .next s
  | .vctr => .next s
  | .nextList => .next s
  | .curList => .next s
  | .wordCnt => .next s
  | .fetchCnt => .next s
  | .cfg c => .next (writeCfg c v s)
  | .symw _ => .next s
  | .desc _ _ _ _ => .next s

/-- RegWrite(off, v); an unmapped offset ignores it (R76). -/
def regWrite (off : Offset) (v : Word) (s : State) : Result :=
  match regAt off with
  | some r => writeReg r v s
  | none => .next s

/-! ### HOST steps -/

/-- The bus takes a window access: 32-bit, at a multiple of 4 (R74). -/
def windowAccessOk (width : AccessWidth) (off : Offset) : Bool :=
  width == .word && off.toNat % 4 == 0

/-- BusFault: the block's state unchanged, the HOST stuck (R264, 93 U1). -/
def busFault (s : State) : State := { s with host := { s.host with stuck := true } }

/-- A HOST read of the window (R75). -/
def hostRead (width : AccessWidth) (off : Offset) (s : State) : State :=
  if windowAccessOk width off then { s with host := { s.host with lastRead := regRead s off } }
  else busFault s

/-- A HOST write to the window (R76). -/
def hostWrite (width : AccessWidth) (off : Offset) (v : Word) (s : State) : Result :=
  if windowAccessOk width off then regWrite off v s else .next (busFault s)

/-- A HOST write to memory (R13, R78 (e)); an address of the window is a write to the window (R70, log 9). Another
core's writes to memory are no HOST accesses in this model, but steps of their own (`otherCoreWrite`; R274, log 17). -/
def hostMemWrite (width : AccessWidth) (addr v : Word) (s : State) : Result :=
  if inWindow s.params addr then hostWrite width (windowOffset addr) v s
  else if addr.toNat % width.bytes = 0 then
    .next (storeMem width addr v s)
  else .fault .memWriteMisaligned

/-- One access of the HOST's program (R107). -/
def runHostOp (op : HostOp) (s : State) : Result :=
  match op with
  | .read width off => .next (hostRead width off s)
  | .write width off v => hostWrite width off v s
  | .memWrite width addr v => hostMemWrite width addr v s
  | .waitIrq => .next s

/-- The state with the HOST's program moved past its first access. -/
def dropHostOp (s : State) : State := { s with host := { s.host with program := s.host.program.tail } }

/-- The HOST's next access may be made now: WAIT_IRQ waits for the IRQ output (R107, R267). -/
def hostOpReady (s : State) : HostOp → Bool
  | .read _ _ => true
  | .write _ _ _ => true
  | .memWrite _ _ _ => true
  | .waitIrq => irqOutput s

/-- A HOST step is enabled: not stuck (R264); while a TX_WAIT holds, its condition (R232); else an access that
may be made. -/
def hostReady (s : State) : Bool :=
  !s.host.stuck
    && (if s.host.holding then waitOver s
      else match s.host.program with
        | [] => false
        | op :: _ => hostOpReady s op)

/-- The HOST's step; a HOST that is not enabled does nothing. -/
def hostStep (s : State) : Result :=
  if hostReady s = false then .next s
  else if s.host.holding then .next (resumeTxWait s)
  else
    match s.host.program with
    | [] => .next s
    | op :: _ => runHostOp op (dropHostOp s)

/-! ### RESET (R290) -/

/-- The RESET step: every state element of the block at its reset value (R60). System memory and the parameters
stay (R290); a TX_WAIT's hold ends with no completion; the HOST's program, a stuck HOST and the agenda are
outside the block and stay (log 7, log 8). -/
def resetBlock (s : State) : State :=
  { State.reset with
    params := s.params
    mem := s.mem
    host := { s.host with holding := false }
    agenda := s.agenda }

/-! ### Other cores (R274; log 17) -/

/-- Another core's write to system memory, in one step (R80, R81, R274). Only the HOST accesses the window (R271),
so a write there is no step of another core; nor is one at an address that is no multiple of its width. -/
def otherCoreWrite (width : AccessWidth) (addr v : Word) (s : State) : State :=
  if inWindow s.params addr = false ∧ addr.toNat % width.bytes = 0 then storeMem width addr v s else s

/-! ### Which agent moves (R81, R237; log 2) -/

/-- A step of the named agent; an agent whose step is not enabled does nothing. -/
def runAgent (a : Agent) (s : State) : Result :=
  match a with
  | .host => hostStep s
  | .fetcher => if fetchEnabled s then fetchRead s else .next s
  | .emitter => if emitEnabled s then .next (emitTriple s) else .next s
  | .reset => .next (resetBlock s)
  | .otherCore width addr v => .next (otherCoreWrite width addr v s)

/-- The agent that moves next: the first of the agenda; past its end the schedule of 95_test_vectors.md
section 8, "The HOST takes every step it can", else the FETCHER, else the EMITTER. DESIGN CHOICE (log 2). -/
def nextAgent (s : State) : Option Agent :=
  match s.agenda with
  | a :: _ => some a
  | [] =>
    if hostReady s then some .host
    else if fetchEnabled s then some .fetcher
    else if emitEnabled s then some .emitter
    else none

/-- The state with the agenda moved past its first entry. -/
def dropAgenda (s : State) : State := { s with agenda := s.agenda.tail }

/-- The command word `w` as the HOST's next access, and the HOST free and next to move (log 1). -/
def placeCommand (w : Word) (s : State) : State :=
  { s with
    host :=
      { s.host with
        program := .write .word 0x008#12 w :: s.host.program
        holding := false
        stuck := false }
    agenda := .host :: s.agenda }

end Sys2Proof.Machine
end

