-- ==== Sys2Proof/Machine/Step.lean ====
section
/-! DEFINITION. One step of the machine: one atomic step of one agent (20_memory.md R78, R81). -/

namespace Sys2Proof.Machine

/-- One step: the agent that moves next makes its step; where no agent can move, nothing changes. -/
def step (s : State) : Host.Outcome State Fault Refusal :=
  match nextAgent s with
  | some a => runAgent a (dropAgenda s)
  | none => .next s

/-- `s` with the command whose bits are `w` as what the very next step runs. The block fetches no program
(R21): a command is the word the HOST writes to CMD, so this places that write in front of the HOST's program
and the HOST in front of the agenda (log 1). Bits above `nbits` are zero. -/
def State.withFetchWord (s : State) (nbits w : Nat) : State :=
  placeCommand (BitVec.ofNat 32 (w % 2 ^ nbits)) s

end Sys2Proof.Machine
end

