-- ==== Sys2Proof/Machine/Programs.lean ====
section
/-! DEFINITION. HOST programs as the spec writes them: the accesses of 30_encoding.md R107, the
pseudo-instructions of R109, the boot sequence of 70_reset_and_hazards.md R291 and the line-boundary protocol of
60_exceptions.md R267. They are HOST behaviour, not block behaviour: the block takes no note of them (R168). -/

namespace Sys2Proof.Machine

/-! ### Accesses by register name (R107) -/

/-- The offset of a lane's TX_DST register (R37). -/
def txDstOffset : Lane → Offset
  | .lane0 => 0x068#12
  | .lane1 => 0x06C#12
  | .lane2 => 0x070#12

/-- The offset of a configuration register (R34 to R37). -/
def cfgOffset : CfgReg → Offset
  | .hFp => 0x040#12
  | .hSync => 0x044#12
  | .hBp => 0x048#12
  | .hActive => 0x04C#12
  | .vFp => 0x050#12
  | .vSync => 0x054#12
  | .vBp => 0x058#12
  | .vActive => 0x05C#12
  | .pol => 0x060#12
  | .bitClkKhz => 0x064#12
  | .txDst l => txDstOffset l

/-- The number of a lane. -/
def laneNumber : Lane → Nat
  | .lane0 => 0
  | .lane1 => 1
  | .lane2 => 2

/-- The number of a slot. -/
def slotNumber : Slot → Nat
  | .slot0 => 0
  | .slot1 => 1
  | .slot2 => 2
  | .slot3 => 3

/-- The number of a descriptor word (R40). -/
def descWordNumber : DescWord → Nat
  | .src => 0
  | .dst => 1
  | .count => 2
  | .dctrl => 3

/-- The offset of a register (R40, R71). -/
def regOffset : Reg → Offset
  | .ctrl => 0x000#12
  | .status => 0x004#12
  | .cmd => 0x008#12
  | .arg0 => 0x00C#12
  | .arg1 => 0x010#12
  | .res0 => 0x014#12
  | .res1 => 0x018#12
  | .vstate => 0x01C#12
  | .vctr => 0x020#12
  | .nextList => 0x024#12
  | .curList => 0x028#12
  | .wordCnt => 0x02C#12
  | .fetchCnt => 0x030#12
  | .cfg r => cfgOffset r
  | .symw c => BitVec.ofNat 12 (0x100 + 4 * c.toNat)
  | .desc list l b w =>
    BitVec.ofNat 12 (0x400 + 0xC0 * (lineStateBits list).toNat + 0x40 * laneNumber l
      + 0x10 * slotNumber b + 4 * descWordNumber w)

/-- `WR reg, value` (R107). -/
def wr (r : Reg) (v : Word) : HostOp := .write .word (regOffset r) v

/-- `RD reg` (R107). -/
def rd (r : Reg) : HostOp := .read .word (regOffset r)

/-- `CMD mnemonic operands` (R107, R108). -/
def cmd (i : Instr) : HostOp := wr .cmd (encode i)

/-! ### Pseudo-instructions (R109) -/

/-- `encode(d, byte)`. -/
def pseudoEncode (d : Int) (byte : Byte) : List HostOp :=
  [wr .arg0 (u32 d), cmd (.enc byte), rd .res0, rd .res1]

/-- `encode_pair(b0, b1)`. -/
def pseudoEncodePair (b0 b1 : Byte) : List HostOp := [cmd (.encPair b0 b1), rd .res0, rd .res1]

/-- `encode_balanced_approx(byte)`. -/
def pseudoEncodeApprox (byte : Byte) : List HostOp := [cmd (.encApprox byte), rd .res0]

/-- Control symbol c. -/
def pseudoControlSymbol (c : BitVec 2) : List HostOp := [cmd (.ctrlSym c), rd .res0, rd .res1]

/-- `new(timing, lane_channels)`. -/
def pseudoNew (t : Timing) (dst : Lanes Word) : List HostOp :=
  [ wr (.cfg .hFp) (t.hFp.setWidth 32), wr (.cfg .hSync) (t.hSync.setWidth 32),
    wr (.cfg .hBp) (t.hBp.setWidth 32), wr (.cfg .hActive) (t.hActive.setWidth 32),
    wr (.cfg .vFp) (t.vFp.setWidth 32), wr (.cfg .vSync) (t.vSync.setWidth 32),
    wr (.cfg .vBp) (t.vBp.setWidth 32), wr (.cfg .vActive) (t.vActive.setWidth 32),
    wr (.cfg .pol) (t.pol.setWidth 32), wr (.cfg .bitClkKhz) t.bitClkKhz,
    wr (.cfg (.txDst .lane0)) dst.l0, wr (.cfg (.txDst .lane1)) dst.l1,
    wr (.cfg (.txDst .lane2)) dst.l2, cmd .timReset ]

/-- `advance()`. -/
def pseudoAdvance : List HostOp := [cmd .timAdvance]

/-- `v_state()` (R164). -/
def pseudoVState : List HostOp := [rd .vstate]

/-- `v_scanline_index(offset)`. -/
def pseudoScanlineIndex (offset : Word) : List HostOp :=
  [wr .arg0 offset, cmd .timIndex, rd .res1, rd .res0]

/-- `setup_dma()`. -/
def pseudoSetupDma : List HostOp := [cmd .dmaSetup]

/-- `update_scanline(buffer_ptr, lane_stride)`. -/
def pseudoUpdateScanline (ptr stride : Word) : List HostOp :=
  [wr .arg0 ptr, wr .arg1 stride, cmd .dmaUpdate]

/-- `submit_blanking_chain(line_state)`. -/
def pseudoSubmitBlanking (list : LineState) : List HostOp := [cmd (.txSubmit list)]

/-- `submit_active_chain(buffer_ptr, len)`. -/
def pseudoSubmitActive (ptr len : Word) : List HostOp :=
  [wr .arg0 ptr, wr .arg1 len, cmd .txSubmitActive]

/-- `wait_for_chain_loaded(n)`. -/
def pseudoWaitLoaded (n : Word) : List HostOp := [wr .arg0 n, cmd .txWait]

/-- `start()`: RUN and IRQ_EN. -/
def pseudoStart : List HostOp := [wr .ctrl 0x3#32]

/-- Acknowledge `on_line_boundary()`. -/
def pseudoAcknowledge : List HostOp := [wr .status 0x1#32]

/-! ### Boot and the interrupt protocol (R267, R291) -/

/-- The boot sequence of R291, from reset to scan-out. -/
def bootProgram (t : Timing) (dst : Lanes Word) : List HostOp :=
  pseudoNew t dst ++ pseudoSetupDma ++ [rd .status] ++ pseudoSubmitBlanking .frontPorch ++ pseudoStart

/-- The head of LineIsr (R267): wait for the interrupt, acknowledge it, advance, read the line-state. -/
def lineIsrEntry : List HostOp := [.waitIrq] ++ pseudoAcknowledge ++ pseudoAdvance ++ pseudoVState

/-- LineIsr where line n+1 is no Active line: submit its list (R267). -/
def lineIsrBlanking (list : LineState) : List HostOp := lineIsrEntry ++ pseudoSubmitBlanking list

/-- LineIsr where line n+1 is an Active line whose row has its lane runs at `ptr` (R267). -/
def lineIsrActive (ptr len : Word) : List HostOp :=
  lineIsrEntry ++ [wr .arg0 0#32, cmd .timIndex] ++ pseudoSubmitActive ptr len

end Sys2Proof.Machine
end

