-- ==== Sys2Proof/Safety.lean ====
section
/-! DEFINITION. What counts as a safe machine: the invariant of 10_state.md R61 and of the lists DMA_SETUP
builds (43_dma_chain.md R198), and the words the statements use. -/

namespace Sys2Proof.Machine

/-! ### Runs of one command -/

/-- The command `i` executed `n` times, stopping where it does not answer a next state. -/
def execTimes (i : Instr) : Nat → State → Result
  | 0, s => .next s
  | n + 1, s =>
    match exec i s with
    | .next t => execTimes i n t
    | .fault r => .fault r
    | .refused r => .refused r

/-- What the command words with opcode `opc` do (R103, R104): with no bit set outside `used`, the command the
word stands for; otherwise CmdError(RESERVED_BITS). -/
def CommandWords (opc : Byte) (used : Word) (i : Word → Instr) : Prop :=
  ∀ (w : Word) (s : State), cmdOpc w = opc →
    runCommand w s =
      if w &&& ~~~used = 0#32 then exec (i w) s else .next (cmdError .reservedBits s)

/-- The state but for STATUS.CMD_ERR and STATUS.ERR_CAUSE, which CmdError may write (R261). -/
def sameButCmdErr (s t : State) : Prop :=
  t = { s with
    status := { s.status with cmdErr := t.status.cmdErr, errCause := t.status.errCause } }

/-- The HOST's next access writes the word `v` to the window at an offset, by the offset or by an address of the
window (R70, R76; log 9), and the HOST is free to make it. -/
def hostWrites (s : State) (off : Offset) (v : Word) : Prop :=
  s.host.stuck = false ∧ s.host.holding = false ∧
    (s.host.program.head? = some (.write .word off v) ∨
      ∃ addr : Word, inWindow s.params addr = true ∧ windowOffset addr = off ∧
        s.host.program.head? = some (.memWrite .word addr v))

/-! ### The lists (R198) -/

/-- The slots of a lane after a given one, in the order they are fetched: lane 0 uses four slots, lanes 1 and 2
use slots 0 and 1 (R190). -/
def slotsAfter : Lane → Slot → List Slot
  | .lane0, .slot0 => [.slot1, .slot2, .slot3]
  | .lane0, .slot1 => [.slot2, .slot3]
  | .lane0, .slot2 => [.slot3]
  | .lane0, .slot3 => []
  | .lane1, .slot0 => [.slot1]
  | .lane1, _ => []
  | .lane2, .slot0 => [.slot1]
  | .lane2, _ => []

/-- The lane uses the slot (R190). -/
def slotUsed : Lane → Slot → Bool
  | .lane0, _ => true
  | _, .slot0 => true
  | _, .slot1 => true
  | _, .slot2 => false
  | _, .slot3 => false

/-- The words of the given slots of a lane of a list. -/
def slotWords (d : DescRam) (list : LineState) (l : Lane) (bs : List Slot) : Nat :=
  (bs.map fun b => (descAt d list l b).count.toNat).sum

/-- The active-region slot of a lane (R194). -/
def activeSlot : Lane → Slot
  | .lane0 => .slot3
  | .lane1 => .slot1
  | .lane2 => .slot1

/-- The patched SRC word of a lane: the Active list's active-region slot (R194, R200). -/
def activeSrc (d : DescRam) (l : Lane) : Word := (descAt d .active l (activeSlot l)).src

/-! ### The position in the line -/

/-- The words lane `l` still has to fetch in the current line. -/
def laneLeft (s : State) (l : Lane) : Nat :=
  (s.fetcher.lanes.get l).rem.toNat
    + slotWords s.desc s.curList l (slotsAfter l (s.fetcher.lanes.get l).slot)

/-- 1 where lane `l` has been read already in the fetch slot under way, 0 where not (R222). -/
def laneAhead : Lane → Lane → Nat
  | .lane1, .lane0 => 1
  | .lane2, .lane0 => 1
  | .lane2, .lane1 => 1
  | _, _ => 0

/-- The block in flight on a lane is a copy of a used slot of the current list (R223): its DCTRL, no more words
than its COUNT, and an aligned address, which for a repeating block is the slot's SRC (R193). -/
structure BlockInv (s : State) (l : Lane) : Prop where
  used : slotUsed l (s.fetcher.lanes.get l).slot = true
  dctrl : (s.fetcher.lanes.get l).dc = (descAt s.desc s.curList l (s.fetcher.lanes.get l).slot).dctrl
  count : (s.fetcher.lanes.get l).rem.toNat
    ≤ (descAt s.desc s.curList l (s.fetcher.lanes.get l).slot).count.toNat
  aligned : wordAligned (s.fetcher.lanes.get l).addr = true
  repeats : dctrlIncr (s.fetcher.lanes.get l).dc = false →
    (s.fetcher.lanes.get l).addr = (descAt s.desc s.curList l (s.fetcher.lanes.get l).slot).src

/-! ### The invariant -/

/-- System memory keeps its canonical form, and no cell lies in the register window (R70). -/
structure MemInv (s : State) : Prop where
  canonical : memCanonical s = true
  outside : ∀ c ∈ s.mem, inWindow s.params (BitVec.ofNat 32 c.1) = false

/-- The flags agree with what they report (R26, R38, R61 (e), R220, R228, R232, R261, R263). -/
structure FlagInv (s : State) : Prop where
  run_built : s.ctrl.run = true → s.status.built = true
  run_valid : s.ctrl.run = true → vValid s.timing = true
  built_valid : s.status.built = true → hValid s.timing = true
  src_built : s.status.srcValid = true → s.status.built = true
  next_active : s.ctrl.run = true → s.nextList = .active → s.status.srcValid = true
  cur_active : s.ctrl.run = true → s.curList = .active → s.status.srcValid = true
  fault_run : s.status.txFault = true → s.ctrl.run = true
  fault_cause : s.status.txFaultCause = if s.status.txFault then busErrorCode else 0x00#8
  err_cause : s.status.cmdErr = false → s.status.errCause = 0x00#8
  hold_run : s.host.holding = true → s.ctrl.run = true

/-- While BUILT = 1, DESC is what DMA_SETUP built from the current configuration, but for the SRC words of the
Active list's active-region slots (R61 (d)), which are aligned, and 0 before the first patch (R195, R200). -/
structure ChainInv (s : State) : Prop where
  built : s.status.built = true →
    s.desc = patchDesc (buildDesc s.params s.timing s.txDst) (activeSrc s.desc .lane0)
      (activeSrc s.desc .lane1) (activeSrc s.desc .lane2)
  aligned : s.status.built = true → ∀ l, wordAligned (activeSrc s.desc l) = true
  unset : s.status.built = true → s.status.srcValid = false → ∀ l, activeSrc s.desc l = 0#32

/-- While RUN = 1: the three lanes are in lockstep in the line and in their FIFOs (R61 (b), (c), R222), each
lane's block is a snapshot of the current list, and the counters count (R32, R33, R272). -/
structure EngineInv (s : State) : Prop where
  left_pos : s.ctrl.run = true → 1 ≤ laneLeft s .lane2
  lockstep : s.ctrl.run = true → ∀ l, laneLeft s l + laneAhead s.fetcher.fk l = laneLeft s .lane2
  block : s.ctrl.run = true → ∀ l, BlockInv s l
  unread : s.ctrl.run = true → ∀ l, laneAhead s.fetcher.fk l = 0 →
    1 ≤ (s.fetcher.lanes.get l).rem.toNat
  read : s.ctrl.run = true → ∀ l, laneAhead s.fetcher.fk l = 1 →
    (s.fetcher.lanes.get l).rem.toNat + 1
      ≤ (descAt s.desc s.curList l (s.fetcher.lanes.get l).slot).count.toNat
  fifo_equal : s.ctrl.run = true → ∀ l,
    (s.fifo.get l).length = (s.fifo.get .lane2).length + laneAhead s.fetcher.fk l
  fifo_bound : s.ctrl.run = true → ∀ l, (s.fifo.get l).length ≤ fifoDepth s.params
  fetched : s.ctrl.run = true → s.fetchCnt = s.wordCnt + BitVec.ofNat 32 (s.fifo.get .lane2).length
  emitted : s.wordCnt = BitVec.ofNat 32 s.out.length
  stopped : s.ctrl.run = false →
    s.out = [] ∧ s.fifo = ⟨[], [], []⟩ ∧ s.fetchCnt = 0#32 ∧ s.wordCnt = 0#32

/-- The machine's invariant. -/
structure Inv (s : State) : Prop where
  mem : MemInv s
  flags : FlagInv s
  chain : ChainInv s
  engine : EngineInv s

end Sys2Proof.Machine
end

