-- ==== Sys2Proof/Certificates/Slice0/Obligations.lean ====
section
/-! DEFINITION. The statements for the provers. Each docstring names the rule of spec/ it comes from. A statement
of the form `exec i s = .next t` with `t` a record update of `s` says the result and the whole frame at once:
every field the update does not name, system memory among them, is unchanged. -/

open Sys2Proof Sys2Proof.Machine

/-! ## Encoding -/

/-- R101 to R104, R108: the decoder reads back every command the encoder writes, with every operand at every
value its field admits. -/
def Obligations.DecodeOfEncode : Prop :=
  ∀ i : Instr, i.wf = true → decode (encode i) = .ok i

/-- R103 to R105: a word that decodes is the one word of its command, so no bit of a word is dropped. -/
def Obligations.EncodeOfDecode : Prop :=
  ∀ (w : Word) (i : Instr), decode w = .ok i → i.wf = true ∧ encode i = w

/-- R103, R104: which words are refused, and for which cause: the opcode first, then the unused bits. -/
def Obligations.DecodeRefusalCauses : Prop :=
  ∀ w : Word,
    let assigned : List Nat :=
      [0x00, 0x01, 0x02, 0x03, 0x04, 0x10, 0x11, 0x12, 0x20, 0x21, 0x30, 0x31, 0x32]
    let opc := w.toNat % 0x100
    let unused :=
      if opc = 0x01 ∨ opc = 0x03 then w.toNat / 0x10000
      else if opc = 0x02 then w.toNat / 0x1000000
      else if opc = 0x04 ∨ opc = 0x30 then w.toNat / 0x400
      else w.toNat / 0x100
    (decode w = .error .reservedOpcode ↔ opc ∉ assigned) ∧
      (decode w = .error .reservedBits ↔ opc ∈ assigned ∧ unused ≠ 0)

/-- R108: the words the spec writes out for five mnemonics, one of the encoder commands, one of the pair, one
control symbol and two submissions. -/
def Obligations.SampleWordsDecode : Prop :=
  decode 0x00001001#32 = .ok (.enc 0x10#8) ∧
    decode 0x00010002#32 = .ok (.encPair 0x00#8 0x01#8) ∧
    decode 0x00000304#32 = .ok (.ctrlSym 3#2) ∧
    decode 0x00000130#32 = .ok (.txSubmit .sync) ∧
    decode 0x00000330#32 = .ok (.txSubmit .active) ∧
    decode 0x00000011#32 = .ok .timAdvance ∧
    decode 0x00000021#32 = .ok .dmaUpdate

/-- R78, R100, R104: where the HOST moves next (the agenda names it, or the agenda is empty, log 2) and its next access
is a 32-bit write of a word to CMD, the step executes that word, and a word that decodes to a command executes the
command. The step adds only that the agenda and the HOST's program move on; the command runs on the state with
both moved on. -/
def Obligations.StepRunsDecodedCommand : Prop :=
  ∀ (s : State) (w : Word) (rest : List HostOp),
    s.agenda = [] ∨ s.agenda.head? = some .host → s.host.stuck = false → s.host.holding = false →
      s.host.program = .write .word 0x008#12 w :: rest →
        let ready := { s with agenda := s.agenda.tail, host := { s.host with program := rest } }
        step s = runCommand w ready ∧
          ∀ i : Instr, decode w = .ok i → i.wf = true → step s = exec i ready

/-- R104, R105, R261, R262: a command word the decoder refuses raises RESERVED_OPCODE (0x01) or RESERVED_BITS
(0x02), the first cause since the last clear staying, and has no other effect. -/
def Obligations.RefusedWordsRaiseOnlyCmdError : Prop :=
  ∀ (s : State) (w : Word) (e : DecodeError), decode w = .error e →
    runCommand w s = .next { s with
      status := { s.status with
        cmdErr := true
        errCause :=
          if s.status.cmdErr = true then s.status.errCause
          else match e with
            | .reservedOpcode => 0x01#8
            | .reservedBits => 0x02#8 } }

/-! ## The encoder -/

/-- R229: NOP changes nothing, and a set bit outside the opcode is RESERVED_BITS. -/
def Obligations.NopDoesNothing : Prop :=
  (∀ s : State, exec .nop s = .next s) ∧ CommandWords 0x00#8 0x000000FF#32 (fun _ => .nop)

/-- R133: stage 1 of the encoder as the symbol shows it, with the inversion of bit 9 undone: the first bit is the
byte's, each later bit is the previous one XORed or XNORed with the byte's, and bit 8 is 0 exactly for XNOR. -/
def Obligations.SymbolCarriesStageOne : Prop :=
  ∀ (d : Int) (D : Byte),
    let q := tmdsSymbol d D
    let qm := fun i : Nat => q.getLsbD i ^^ q.getLsbD 9
    let n1D := ((List.range 8).filter fun i => D.getLsbD i).length
    let xnor : Bool := decide (n1D > 4 ∨ (n1D = 4 ∧ D.getLsbD 0 = false))
    q.getLsbD 8 = !xnor ∧ qm 0 = D.getLsbD 0 ∧
      ∀ i : Nat, 1 ≤ i → i ≤ 7 →
        qm i = if xnor = true then !(qm (i - 1) ^^ D.getLsbD i) else (qm (i - 1) ^^ D.getLsbD i)

/-- R134: stage 2 of the encoder: when the data bits are inverted, as bit 9 of the symbol shows. -/
def Obligations.SymbolInversionRule : Prop :=
  ∀ (d : Int) (D : Byte),
    let q := tmdsSymbol d D
    let n1 := ((List.range 8).filter fun i => q.getLsbD i ^^ q.getLsbD 9).length
    q.getLsbD 9 =
      (if d = 0 ∨ n1 = 4 then !q.getLsbD 8
       else decide ((d > 0 ∧ n1 > 4) ∨ (d < 0 ∧ n1 < 4)))

/-- R133, R134: a receiver gets the byte back from the symbol, whatever the discrepancy was. -/
def Obligations.SymbolDeterminesByte : Prop :=
  ∀ (d e : Int) (D E : Byte), tmdsSymbol d D = tmdsSymbol e E → D = E

/-- R140: the bounds on the new discrepancy and on the 1-counts of the symbols.
The spec marks this as its own inference (R140). -/
def Obligations.DiscrepancyBounds : Prop :=
  (∀ D : Byte,
    (-4 ≤ tmdsDiscrepancy 0 D ∧ tmdsDiscrepancy 0 D ≤ 4) ∧
      1 ≤ popcount (tmdsSymbol 0 D) ∧ popcount (tmdsSymbol 0 D) ≤ 9) ∧
  ((List.range 9).map fun k =>
    ((List.range 256).filter fun b => popcount (tmdsSymbol 0 (BitVec.ofNat 8 b)) == k + 1).length)
      = [2, 16, 36, 48, 52, 48, 36, 16, 2] ∧
  (∀ bytes : List Byte,
    -4 ≤ bytes.foldl tmdsDiscrepancy 0 ∧ bytes.foldl tmdsDiscrepancy 0 ≤ 4) ∧
  (∀ v : Int, -4 ≤ v → v ≤ 4 → ∃ bytes : List Byte, bytes.foldl tmdsDiscrepancy 0 = v) ∧
  (∀ (d : Int) (D : Byte),
    (0 < d → -5 ≤ tmdsDiscrepancy d D - d ∧ tmdsDiscrepancy d D - d ≤ 0) ∧
      (d < 0 → 0 ≤ tmdsDiscrepancy d D - d ∧ tmdsDiscrepancy d D - d ≤ 5) ∧
      (d = 0 → -4 ≤ tmdsDiscrepancy d D - d ∧ tmdsDiscrepancy d D - d ≤ 4) ∧
      |tmdsDiscrepancy d D| ≤ max |d| 4)

/-- R135, R136: ENC writes the symbol to RES0 and the new discrepancy to RES1, which is the discrepancy of ARG0
plus the symbol's 1-count less 5 as a signed number for every ARG0 (no overflow), and changes nothing else. -/
def Obligations.EncWritesSymbolAndDiscrepancy : Prop :=
  (∀ (byte : Byte) (s : State), ∃ r1 : Word,
    exec (.enc byte) s =
      .next { s with res0 := (tmdsSymbol s.arg0.toInt byte).setWidth 32, res1 := r1 } ∧
    r1.toInt = s.arg0.toInt + popcount (tmdsSymbol s.arg0.toInt byte) - 5) ∧
  CommandWords 0x01#8 0x0000FFFF#32 (fun w => .enc (w.extractLsb' 8 8))

/-- R130, R137, R138, R141: ENC_PAIR writes the two symbols, the first in bits 9:0 and the second in bits 19:10,
threaded from discrepancy 0, and the residual; UNBAL is set if the residual is not 0 and never cleared. -/
def Obligations.EncPairWritesPairAndResidual : Prop :=
  (∀ (b0 b1 : Byte) (s : State), ∃ r0 r1 : Word,
    exec (.encPair b0 b1) s =
      .next { s with
        res0 := r0
        res1 := r1
        status := { s.status with unbal := s.status.unbal || decide (r1 ≠ 0#32) } } ∧
    r0.extractLsb' 0 10 = tmdsSymbol 0 b0 ∧
    r0.extractLsb' 10 10 = tmdsSymbol (tmdsDiscrepancy 0 b0) b1 ∧
    r0.extractLsb' 20 12 = 0#12 ∧
    r1.toInt = tmdsDiscrepancy (tmdsDiscrepancy 0 b0) b1) ∧
  CommandWords 0x02#8 0x00FFFFFF#32 (fun w => .encPair (w.extractLsb' 8 8) (w.extractLsb' 16 8))

/-- R139: ENC_APPROX writes what ENC_PAIR writes for the byte and the byte xor 1, its residual is 0 for every
byte, and nothing else changes: UNBAL stays.
The spec marks this as its own inference (residual 0: R139's corner case). -/
def Obligations.EncApproxIsBalancedPair : Prop :=
  (∀ (b : Byte) (s : State), ∃ r0 : Word,
    exec (.encApprox b) s = .next { s with res0 := r0, res1 := 0#32 } ∧
    exec (.encPair b (b ^^^ 0x01#8)) s = .next { s with res0 := r0, res1 := 0#32 }) ∧
  CommandWords 0x03#8 0x0000FFFF#32 (fun w => .encApprox (w.extractLsb' 8 8))

/-- R39, R142, R143: CTRL_SYM writes the four control symbols and their pair words, and changes nothing else. -/
def Obligations.CtrlSymWritesTable : Prop :=
  (∀ s : State,
    exec (.ctrlSym 0#2) s = .next { s with res0 := 0x00000354#32, res1 := 0x000D5354#32 } ∧
    exec (.ctrlSym 1#2) s = .next { s with res0 := 0x000000AB#32, res1 := 0x0002ACAB#32 } ∧
    exec (.ctrlSym 2#2) s = .next { s with res0 := 0x00000154#32, res1 := 0x00055154#32 } ∧
    exec (.ctrlSym 3#2) s = .next { s with res0 := 0x000002AB#32, res1 := 0x000AAEAB#32 }) ∧
  CommandWords 0x04#8 0x000003FF#32 (fun w => .ctrlSym (w.extractLsb' 8 2))

/-- 90_conflicts.md C7: no symbol the encoder emits for a byte is a control symbol.
The spec marks this as its own inference (C7). -/
def Obligations.DataSymbolsAreNotControlSymbols : Prop :=
  ∀ (d : Int) (D : Byte) (c : BitVec 2), tmdsSymbol d D ≠ ctrlSymbol c

/-! ## The display-timing state machine -/

/-- R163: TIM_RESET goes to (FrontPorch, 0) from every state, whatever the configuration, and changes nothing
else. -/
def Obligations.TimResetGoesToStart : Prop :=
  (∀ s : State, exec .timReset s = .next { s with vstate := .frontPorch, vctr := 0#32 }) ∧
  CommandWords 0x10#8 0x000000FF#32 (fun _ => .timReset)

/-- R42, R162: TIM_ADVANCE with every V count at least 1: the next line-state at the end of the current one, and
one more line counted before it; with some V count 0, BAD_CONFIG and no other effect. -/
def Obligations.TimAdvanceRule : Prop :=
  (∀ s : State,
    let t := s.timing
    let valid := 1 ≤ t.vFp.toNat ∧ 1 ≤ t.vSync.toNat ∧ 1 ≤ t.vBp.toNat ∧ 1 ≤ t.vActive.toNat
    let count := match s.vstate with
      | .frontPorch => t.vFp.toNat
      | .sync => t.vSync.toNat
      | .backPorch => t.vBp.toNat
      | .active => t.vActive.toNat
    let after := match s.vstate with
      | .frontPorch => LineState.sync
      | .sync => .backPorch
      | .backPorch => .active
      | .active => .frontPorch
    (valid → s.vctr.toNat + 1 ≥ count →
      exec .timAdvance s = .next { s with vstate := after, vctr := 0#32 }) ∧
    (valid → s.vctr.toNat + 1 < count → ∃ c : Word, c.toNat = s.vctr.toNat + 1 ∧
      exec .timAdvance s = .next { s with vctr := c }) ∧
    (¬ valid → exec .timAdvance s = .next (cmdError .badConfig s))) ∧
  CommandWords 0x11#8 0x000000FF#32 (fun _ => .timAdvance)

/-- R165: TIM_INDEX with every V count at least 1 gives Some(y) for y = pos + offset - BLANK within the active
lines, with no wrap, and None otherwise; with some V count 0, BAD_CONFIG. Nothing else changes. -/
def Obligations.TimIndexRule : Prop :=
  (∀ s : State,
    let blank := s.timing.vFp.toNat + s.timing.vSync.toNat + s.timing.vBp.toNat
    (vValid s.timing = true →
      ((∃ y : Nat, y < s.timing.vActive.toNat ∧ framePos s + s.arg0.toNat = blank + y ∧
          exec .timIndex s = .next { s with res0 := BitVec.ofNat 32 y, res1 := 1#32 }) ∨
        ((framePos s + s.arg0.toNat < blank ∨
            blank + s.timing.vActive.toNat ≤ framePos s + s.arg0.toNat) ∧
          exec .timIndex s = .next { s with res0 := 0#32, res1 := 0#32 }))) ∧
    (vValid s.timing = false → exec .timIndex s = .next (cmdError .badConfig s))) ∧
  CommandWords 0x12#8 0x000000FF#32 (fun _ => .timIndex)

/-- R166: with V_VALID and the counter inside its line-state, k TIM_ADVANCE commands move the frame position on
by k modulo TOTAL and change nothing else, so exactly TOTAL of them give the state back, and the positions
between are all different. The spec marks this as its own inference (R166). -/
def Obligations.FramePeriodicity : Prop :=
  ∀ s : State, vValid s.timing = true → s.vctr.toNat < lineCount s.timing s.vstate →
    (∀ k : Nat, ∃ t : State,
      execTimes .timAdvance k s = .next t ∧
        t = { s with vstate := t.vstate, vctr := t.vctr } ∧
        t.vctr.toNat < lineCount t.timing t.vstate ∧
        framePos t = (framePos s + k) % totalLines s.timing) ∧
    execTimes .timAdvance (totalLines s.timing) s = .next s ∧
    (∀ k : Nat, 0 < k → k < totalLines s.timing → execTimes .timAdvance k s ≠ .next s)

/-- R165, R167: over one frame from (FrontPorch, 0), TIM_INDEX with an offset of at most BLANK gives each active
row y exactly once, at frame position BLANK - offset + y, so in increasing order.
The spec marks this as its own inference (R167). -/
def Obligations.IndexCoversEachRowOnce : Prop :=
  ∀ s : State, vValid s.timing = true → s.vstate = .frontPorch → s.vctr = 0#32 →
    s.arg0.toNat ≤ blankLines s.timing →
      ∀ n : Nat, n < totalLines s.timing →
        ∃ t u : State, execTimes .timAdvance n s = .next t ∧ exec .timIndex t = .next u ∧
          ∀ y : Nat, y < s.timing.vActive.toNat →
            (u.res1 = 1#32 ∧ u.res0.toNat = y ↔ n + s.arg0.toNat = blankLines s.timing + y)

/-- R28, R29, R168: VSTATE and VCTR change by TIM_RESET and TIM_ADVANCE alone, RESET aside: by no other command, by no
write to another register, and, whatever any agent does, only in a step in which the HOST writes one of the two
commands to CMD. -/
def Obligations.OnlyTimingCommandsMoveTiming : Prop :=
  (∀ (i : Instr) (s t : State), exec i s = .next t → i ≠ .timReset → i ≠ .timAdvance →
    t.vstate = s.vstate ∧ t.vctr = s.vctr) ∧
  (∀ (r : Reg) (v : Word) (s t : State), r ≠ .cmd → writeReg r v s = .next t →
    t.vstate = s.vstate ∧ t.vctr = s.vctr) ∧
  (∀ (a : Agent) (s t : State), a ≠ .reset → runAgent a s = .next t →
    (t.vstate = s.vstate ∧ t.vctr = s.vctr) ∨
      (a = .host ∧ ∃ (w : Word) (i : Instr), hostWrites s 0x008#12 w ∧ decode w = .ok i ∧
        (i = .timReset ∨ i = .timAdvance) ∧ exec i (dropHostOp s) = .next t))

/-! ## The chain builder and patcher -/

/-- R42, R195: DMA_SETUP while stopped and with a valid configuration (V_VALID: every V count at least 1; H_VALID:
every H width at least 2 and even) writes DESC, sets BUILT and clears SRC_VALID, and changes nothing else; while
RUN = 1 it raises RUNNING; then BAD_CONFIG where the configuration is not valid. -/
def Obligations.DmaSetupRule : Prop :=
  (∀ s : State,
    let t := s.timing
    let vOk := 1 ≤ t.vFp.toNat ∧ 1 ≤ t.vSync.toNat ∧ 1 ≤ t.vBp.toNat ∧ 1 ≤ t.vActive.toNat
    let hOk := ∀ w ∈ [t.hFp, t.hSync, t.hBp, t.hActive], 2 ≤ w.toNat ∧ w.toNat % 2 = 0
    (s.ctrl.run = false → vOk → hOk → ∃ d : DescRam,
      exec .dmaSetup s =
        .next { s with desc := d, status := { s.status with built := true, srcValid := false } }) ∧
    (s.ctrl.run = true → exec .dmaSetup s = .next (cmdError .running s)) ∧
    (s.ctrl.run = false → ¬ (vOk ∧ hOk) → exec .dmaSetup s = .next (cmdError .badConfig s))) ∧
  CommandWords 0x20#8 0x000000FF#32 (fun _ => .dmaSetup)

/-- R195, R196: lane 0 of every list after DMA_SETUP, slot by slot.
The spec marks this as its own inference (R196, from R195). -/
def Obligations.BuiltLaneZeroTable : Prop :=
  ∀ s t : State, exec .dmaSetup s = .next t → s.ctrl.run = false → vValid s.timing = true →
    hValid s.timing = true → ∀ list : LineState,
      let idle := symAddr s.params (idleIndex s.timing.pol list)
      let dst := s.txDst.l0
      descAt t.desc list .lane0 .slot0 = ⟨idle, dst, BitVec.ofNat 32 (s.timing.hFp.toNat / 2), 0x8#32⟩ ∧
      descAt t.desc list .lane0 .slot1 =
        ⟨symAddr s.params (pulseIndex s.timing.pol list), dst,
          BitVec.ofNat 32 (s.timing.hSync.toNat / 2), 0x8#32⟩ ∧
      descAt t.desc list .lane0 .slot2 = ⟨idle, dst, BitVec.ofNat 32 (s.timing.hBp.toNat / 2), 0xA#32⟩ ∧
      (list ≠ .active →
        descAt t.desc list .lane0 .slot3 =
          ⟨idle, dst, BitVec.ofNat 32 (s.timing.hActive.toNat / 2), 0xC#32⟩) ∧
      (list = .active →
        descAt t.desc list .lane0 .slot3 =
          ⟨0#32, dst, BitVec.ofNat 32 (s.timing.hActive.toNat / 2), 0xD#32⟩)

/-- R195, R197: lanes 1 and 2 of every list after DMA_SETUP, slot by slot.
The spec marks this as its own inference (R197, from R195). -/
def Obligations.BuiltLanesOneTwoTable : Prop :=
  ∀ s t : State, exec .dmaSetup s = .next t → s.ctrl.run = false → vValid s.timing = true →
    hValid s.timing = true → ∀ (list : LineState) (l : Lane), l ≠ .lane0 →
      let dst := s.txDst.get l
      descAt t.desc list l .slot0 =
        ⟨symAddr s.params 0#2, dst,
          BitVec.ofNat 32 ((s.timing.hFp.toNat + s.timing.hSync.toNat + s.timing.hBp.toNat) / 2),
          0x8#32⟩ ∧
      (list ≠ .active →
        descAt t.desc list l .slot1 =
          ⟨symAddr s.params 0#2, dst, BitVec.ofNat 32 (s.timing.hActive.toNat / 2), 0xC#32⟩) ∧
      (list = .active →
        descAt t.desc list l .slot1 =
          ⟨0#32, dst, BitVec.ofNat 32 (s.timing.hActive.toNat / 2), 0xD#32⟩) ∧
      descAt t.desc list l .slot2 = ⟨0#32, 0#32, 0#32, 0#32⟩ ∧
      descAt t.desc list l .slot3 = ⟨0#32, 0#32, 0#32, 0#32⟩

/-- R192: the table of the lane-0 control indices, for each POL (VSYNC_POS, HSYNC_POS) and list. -/
def Obligations.SyncPolarityTable : Prop :=
  ∀ list : LineState, list ≠ .sync →
    (idleIndex 0#2 list = 3#2 ∧ pulseIndex 0#2 list = 2#2 ∧
      idleIndex 0#2 .sync = 1#2 ∧ pulseIndex 0#2 .sync = 0#2) ∧
    (idleIndex 1#2 list = 2#2 ∧ pulseIndex 1#2 list = 3#2 ∧
      idleIndex 1#2 .sync = 0#2 ∧ pulseIndex 1#2 .sync = 1#2) ∧
    (idleIndex 2#2 list = 1#2 ∧ pulseIndex 2#2 list = 0#2 ∧
      idleIndex 2#2 .sync = 3#2 ∧ pulseIndex 2#2 .sync = 2#2) ∧
    (idleIndex 3#2 list = 0#2 ∧ pulseIndex 3#2 list = 1#2 ∧
      idleIndex 3#2 .sync = 2#2 ∧ pulseIndex 3#2 .sync = 3#2)

/-- R191: symaddr(i) is P_BASE + 0x100 + 4*i, and a FETCHER read of it returns SYMWi through the register
window, in every state and for every P_BASE. The spec marks this as its own inference (R191). -/
def Obligations.SymbolAddressesReadSymbolWords : Prop :=
  ∀ (s : State) (i : BitVec 2),
    (symAddr s.params i).toNat = (pBase s.params).toNat + 0x100 + 4 * i.toNat ∧
      memRead s (symAddr s.params i) = .word (symw i)

/-- R198: for every list and lane, the COUNTs of the VALID slots DMA_SETUP built add up to LINE_WORDS, and the
end of the inactive period falls on the same word on all three lanes.
The spec marks this as its own inference (R198). -/
def Obligations.LaneSumsAreOneLine : Prop :=
  ∀ s t : State, exec .dmaSetup s = .next t → s.ctrl.run = false → vValid s.timing = true →
    hValid s.timing = true → ∀ (list : LineState) (l : Lane),
      let words := fun bs : List Slot => ((bs.map fun b => descAt t.desc list l b).filter
        fun d => dctrlValid d.dctrl).map (fun d => d.count.toNat) |>.sum
      words [.slot0, .slot1, .slot2, .slot3] =
        (s.timing.hFp.toNat + s.timing.hSync.toNat + s.timing.hBp.toNat + s.timing.hActive.toNat) / 2 ∧
      words (if l = .lane0 then [.slot0, .slot1, .slot2] else [.slot0]) =
        s.timing.hFp.toNat / 2 + s.timing.hSync.toNat / 2 + s.timing.hBp.toNat / 2

/-- R199: in each list DMA_SETUP builds, the one VALID slot with IRQ = 1 is lane 0 slot 2. -/
def Obligations.OneInterruptSlotPerList : Prop :=
  ∀ s t : State, exec .dmaSetup s = .next t → s.ctrl.run = false → vValid s.timing = true →
    hValid s.timing = true → ∀ (list : LineState) (l : Lane) (b : Slot),
      (dctrlValid (descAt t.desc list l b).dctrl = true ∧ dctrlIrq (descAt t.desc list l b).dctrl = true)
        ↔ (l = .lane0 ∧ b = .slot2)

/-- R200: DMA_UPDATE on a built chain with an aligned pointer writes the three SRC words of the Active list's
active-region slots and SRC_VALID; no COUNT, DCTRL, DST or other list's word changes, nor anything else. NOT_BUILT
comes first, then MISALIGNED. -/
def Obligations.DmaUpdateRule : Prop :=
  (∀ s : State,
    (s.status.built = true → s.arg0.toNat % 4 = 0 → ∃ d : DescRam,
      exec .dmaUpdate s = .next { s with desc := d, status := { s.status with srcValid := true } } ∧
      (descAt d .active .lane0 .slot3).src = s.arg0 ∧
      (descAt d .active .lane1 .slot1).src.toNat = (s.arg0.toNat + 4 * s.arg1.toNat) % 2 ^ 32 ∧
      (descAt d .active .lane2 .slot1).src.toNat = (s.arg0.toNat + 8 * s.arg1.toNat) % 2 ^ 32 ∧
      (∀ (list : LineState) (l : Lane) (b : Slot),
        descAt d list l b =
          { descAt s.desc list l b with src := (descAt d list l b).src } ∧
        (¬ (list = .active ∧ b = activeSlot l) → descAt d list l b = descAt s.desc list l b))) ∧
    (s.status.built = false → exec .dmaUpdate s = .next (cmdError .notBuilt s)) ∧
    (s.status.built = true → s.arg0.toNat % 4 ≠ 0 →
      exec .dmaUpdate s = .next (cmdError .misaligned s))) ∧
  CommandWords 0x21#8 0x000000FF#32 (fun _ => .dmaUpdate)

/-- R40, R201, R306: whatever any agent but RESET does, DESC changes only in a step in which the HOST writes
DMA_SETUP, while RUN = 0, or one of the two patch commands to CMD; the patch commands change no word but the SRC words
of the Active list's active-region slots. Register writes but to CMD, register reads, memory writes, WAIT_IRQ, the end
of a hold, the FETCHER and the EMITTER leave it alone. The spec marks this as its own inference (R201, R306). -/
def Obligations.OnlySetupAndPatchesChangeDesc : Prop :=
  (∀ (i : Instr) (s t : State), exec i s = .next t →
    (i ≠ .dmaSetup → ∀ (list : LineState) (l : Lane) (b : Slot),
      descAt t.desc list l b = { descAt s.desc list l b with src := (descAt t.desc list l b).src } ∧
      (¬ (list = .active ∧ b = activeSlot l) → descAt t.desc list l b = descAt s.desc list l b)) ∧
    (i ≠ .dmaSetup → i ≠ .dmaUpdate → i ≠ .txSubmitActive → t.desc = s.desc) ∧
    (i = .dmaSetup → s.ctrl.run = true → t.desc = s.desc)) ∧
  (∀ (r : Reg) (v : Word) (s t : State), r ≠ .cmd → writeReg r v s = .next t → t.desc = s.desc) ∧
  (∀ (a : Agent) (s t : State), a ≠ .reset → runAgent a s = .next t →
    t.desc = s.desc ∨
      (a = .host ∧ ∃ (w : Word) (i : Instr), hostWrites s 0x008#12 w ∧ decode w = .ok i ∧
        ((i = .dmaSetup ∧ s.ctrl.run = false) ∨ i = .dmaUpdate ∨ i = .txSubmitActive) ∧
        exec i (dropHostOp s) = .next t))

/-! ## The submission and waiting commands -/

/-- R228: TX_SUBMIT on a built chain writes NEXT_LIST and sets ARMED, and changes nothing else; NOT_BUILT comes
first, then SRC_UNSET for the Active list without a patch. -/
def Obligations.TxSubmitRule : Prop :=
  (∀ (list : LineState) (s : State),
    (s.status.built = true → (list = .active → s.status.srcValid = true) →
      exec (.txSubmit list) s = .next { s with nextList := list, armed := true }) ∧
    (s.status.built = false → exec (.txSubmit list) s = .next (cmdError .notBuilt s)) ∧
    (s.status.built = true → list = .active → s.status.srcValid = false →
      exec (.txSubmit list) s = .next (cmdError .srcUnset s))) ∧
  CommandWords 0x30#8 0x000003FF#32 (fun w => .txSubmit (lineStateOfBits (w.extractLsb' 8 2)))

/-- R230: TX_SUBMIT_ACTIVE on a built chain, with an aligned pointer and len = H_ACTIVE/2, patches the three lane
runs one after the other, sets SRC_VALID, NEXT_LIST to Active and ARMED, and changes nothing else; the checks come
in the order NOT_BUILT, MISALIGNED, LEN_MISMATCH. -/
def Obligations.TxSubmitActiveRule : Prop :=
  (∀ s : State,
    (s.status.built = true → s.arg0.toNat % 4 = 0 → s.arg1.toNat = s.timing.hActive.toNat / 2 →
      ∃ d : DescRam,
        exec .txSubmitActive s =
          .next { s with
            desc := d
            status := { s.status with srcValid := true }
            nextList := .active
            armed := true } ∧
        (descAt d .active .lane0 .slot3).src = s.arg0 ∧
        (descAt d .active .lane1 .slot1).src.toNat = (s.arg0.toNat + 4 * s.arg1.toNat) % 2 ^ 32 ∧
        (descAt d .active .lane2 .slot1).src.toNat = (s.arg0.toNat + 8 * s.arg1.toNat) % 2 ^ 32 ∧
        (∀ (list : LineState) (l : Lane) (b : Slot),
          descAt d list l b =
            { descAt s.desc list l b with src := (descAt d list l b).src } ∧
          (¬ (list = .active ∧ b = activeSlot l) → descAt d list l b = descAt s.desc list l b))) ∧
    (s.status.built = false → exec .txSubmitActive s = .next (cmdError .notBuilt s)) ∧
    (s.status.built = true → s.arg0.toNat % 4 ≠ 0 →
      exec .txSubmitActive s = .next (cmdError .misaligned s)) ∧
    (s.status.built = true → s.arg0.toNat % 4 = 0 → s.arg1.toNat ≠ s.timing.hActive.toNat / 2 →
      exec .txSubmitActive s = .next (cmdError .lenMismatch s))) ∧
  CommandWords 0x31#8 0x000000FF#32 (fun _ => .txSubmitActive)

/-- R232: TX_WAIT with the engine running unfaulted completes at once and changes nothing where FETCHCNT has
reached ARG0 (unsigned), and otherwise only begins to hold; with the engine stopped or faulted, NOT_RUNNING. That the
hold is a flag of the HOST is the model's reading (log 12). -/
def Obligations.TxWaitRule : Prop :=
  (∀ s : State,
    (s.ctrl.run = true → s.status.txFault = false → s.arg0.toNat ≤ s.fetchCnt.toNat →
      exec .txWait s = .next s) ∧
    (s.ctrl.run = true → s.status.txFault = false → s.fetchCnt.toNat < s.arg0.toNat →
      exec .txWait s = .next { s with host := { s.host with holding := true } }) ∧
    (s.ctrl.run = false ∨ s.status.txFault = true →
      exec .txWait s = .next (cmdError .notRunning s))) ∧
  CommandWords 0x32#8 0x000000FF#32 (fun _ => .txWait)

/-- R232: while a TX_WAIT holds the HOST takes no step, whatever its program; the hold ends with no other effect
once FETCHCNT has reached ARG0, and with NOT_RUNNING once a TxFault has come. That a HOST turn in which it takes no
step leaves the state as it is, and that the hold is a flag, are the model's choices (log 2, log 12). -/
def Obligations.HoldingHostWaits : Prop :=
  ∀ s : State, s.host.holding = true → s.host.stuck = false →
    (s.status.txFault = false → s.fetchCnt.toNat < s.arg0.toNat → runAgent .host s = .next s) ∧
    (s.status.txFault = false → s.arg0.toNat ≤ s.fetchCnt.toNat →
      runAgent .host s = .next { s with host := { s.host with holding := false } }) ∧
    (s.status.txFault = true →
      runAgent .host s =
        .next { cmdError .notRunning s with host := { s.host with holding := false } })

/-! ## Commands as a whole -/

/-- R261, R262: a command either leaves CMD_ERR and ERR_CAUSE alone, or raises CmdError: then CMD_ERR is 1, ERR_CAUSE
is the first cause since the last clear, and nothing else has changed. The second part gives the cause codes. -/
def Obligations.CmdErrorHasNoOtherEffect : Prop :=
  (∀ (i : Instr) (s t : State), exec i s = .next t →
    (t.status.cmdErr = s.status.cmdErr ∧ t.status.errCause = s.status.errCause) ∨
      (sameButCmdErr s t ∧ t.status.cmdErr = true ∧
        (s.status.cmdErr = true → t.status.errCause = s.status.errCause) ∧
        (s.status.cmdErr = false → ∃ c : CmdCause, t.status.errCause = cmdCauseCode c))) ∧
  (∀ (c : CmdCause) (s : State),
    sameButCmdErr s (cmdError c s) ∧ (cmdError c s).status.cmdErr = true ∧
      (s.status.cmdErr = true → (cmdError c s).status.errCause = s.status.errCause) ∧
      (s.status.cmdErr = false → (cmdError c s).status.errCause = (match c with
        | .reservedOpcode => 0x01#8
        | .reservedBits => 0x02#8
        | .badConfig => 0x03#8
        | .notBuilt => 0x04#8
        | .running => 0x05#8
        | .misaligned => 0x06#8
        | .lenMismatch => 0x07#8
        | .srcUnset => 0x08#8
        | .notRunning => 0x09#8
        | .startRefused => 0x0A#8)))

/-- R22, R23, R70, R131, R307: no command writes ARG0, ARG1, the configuration, TX_DST or system memory; only ENC,
ENC_PAIR, ENC_APPROX, CTRL_SYM and TIM_INDEX write RES0 or RES1; only ENC_PAIR sets UNBAL. -/
def Obligations.WhatCommandsLeaveAlone : Prop :=
  ∀ (i : Instr) (s t : State), exec i s = .next t →
    t.arg0 = s.arg0 ∧ t.arg1 = s.arg1 ∧ t.timing = s.timing ∧ t.txDst = s.txDst ∧
      t.params = s.params ∧ t.ctrl = s.ctrl ∧ (∀ a : Nat, memByte t a = memByte s a) ∧
      ((t.res0 = s.res0 ∧ t.res1 = s.res1) ∨ (∃ b, i = .enc b) ∨ (∃ b c, i = .encPair b c) ∨
        (∃ b, i = .encApprox b) ∨ (∃ c, i = .ctrlSym c) ∨ i = .timIndex) ∧
      (t.status.unbal = s.status.unbal ∨ ∃ b c, i = .encPair b c)

/-- R84, R306: no command changes what the engine has loaded, queued, counted or emitted: SLOT, REM, ADDR, DC, FK,
the FIFOs, OUT, CUR_LIST, FETCHCNT, WORDCNT, or the flags the engine raises.
The spec marks this as its own inference (R84, R306). -/
def Obligations.CommandsLeaveTheEngineAlone : Prop :=
  ∀ (i : Instr) (s t : State), exec i s = .next t →
    t.fetcher = s.fetcher ∧ t.fifo = s.fifo ∧ t.out = s.out ∧ t.curList = s.curList ∧
      t.fetchCnt = s.fetchCnt ∧ t.wordCnt = s.wordCnt ∧ t.status.lineIrq = s.status.lineIrq ∧
      t.status.missed = s.status.missed ∧ t.status.irqOvr = s.status.irqOvr ∧
      t.status.txFault = s.status.txFault ∧ t.status.txFaultCause = s.status.txFaultCause

/-! ## The register window -/

/-- R27: a HOST write of v to STATUS clears exactly the five W1C flags whose bit in v is 1, bit 4 also clears
ERR_CAUSE, bits 5 to 31 are ignored, and nothing else changes. -/
def Obligations.StatusWriteClears : Prop :=
  ∀ (s : State) (v : Word),
    regWrite 0x004#12 v s = .next { s with
      status := { s.status with
        lineIrq := if v.getLsbD 0 = true then false else s.status.lineIrq
        missed := if v.getLsbD 1 = true then false else s.status.missed
        irqOvr := if v.getLsbD 2 = true then false else s.status.irqOvr
        unbal := if v.getLsbD 3 = true then false else s.status.unbal
        cmdErr := if v.getLsbD 4 = true then false else s.status.cmdErr
        errCause := if v.getLsbD 4 = true then 0x00#8 else s.status.errCause } }

/-- R34 to R38: a HOST write to a configuration register while RUN = 1 raises RUNNING and changes nothing else;
while RUN = 0 the register reads back the bits of its field and every other configuration register reads as
before; H widths, POL and TX_DST clear BUILT and SRC_VALID, the others leave both. -/
def Obligations.ConfigWriteRule : Prop :=
  ∀ (r : CfgReg) (v : Word) (s : State),
    (s.ctrl.run = true → regWrite (cfgOffset r) v s = .next (cmdError .running s)) ∧
    (s.ctrl.run = false → ∃ t : State,
      regWrite (cfgOffset r) v s = .next t ∧
      t = { s with timing := t.timing, txDst := t.txDst, status := t.status } ∧
      readCfg t r = (match r with
        | .bitClkKhz => v
        | .txDst _ => v
        | .pol => v &&& 0x3#32
        | _ => v &&& 0xFFFF#32) ∧
      (∀ q : CfgReg, q ≠ r → readCfg t q = readCfg s q) ∧
      t.status = (match r with
        | .vFp => s.status
        | .vSync => s.status
        | .vBp => s.status
        | .vActive => s.status
        | .bitClkKhz => s.status
        | _ => { s.status with built := false, srcValid := false }))

/-- R22 to R26, R28 to R37, R39, R75, R76: what a read of each register below DESC returns (DESC's are
DescriptorOffsets), CTRL and STATUS bit by bit, reserved bits, CMD and unmapped offsets 0; ARG0 and ARG1 take the
whole word written; a write to a read-only register, to SYMW, to DESC or to an unmapped offset has no effect; a word
read of the window changes nothing but what the HOST has read (the model's field, log 11). -/
def Obligations.RegisterReadsAndIgnoredWrites : Prop :=
  (∀ s : State,
    let number : LineState → Word := fun x => match x with
      | .frontPorch => 0#32
      | .sync => 1#32
      | .backPorch => 2#32
      | .active => 3#32
    (∀ i : Nat, (regRead s 0x000#12).getLsbD i = (match i with
      | 0 => s.ctrl.run
      | 1 => s.ctrl.irqEn
      | _ => false)) ∧
    (∀ i : Nat, (regRead s 0x004#12).getLsbD i = (match i with
      | 0 => s.status.lineIrq
      | 1 => s.status.missed
      | 2 => s.status.irqOvr
      | 3 => s.status.unbal
      | 4 => s.status.cmdErr
      | 5 => s.status.txFault
      | 6 => s.status.built
      | 7 => s.status.srcValid
      | k =>
        if k < 16 then s.status.errCause.getLsbD (k - 8)
        else if k < 24 then s.status.txFaultCause.getLsbD (k - 16)
        else false)) ∧
    regRead s 0x008#12 = 0#32 ∧ regRead s 0x00C#12 = s.arg0 ∧ regRead s 0x010#12 = s.arg1 ∧
    regRead s 0x014#12 = s.res0 ∧ regRead s 0x018#12 = s.res1 ∧
    regRead s 0x01C#12 = number s.vstate ∧ regRead s 0x020#12 = s.vctr ∧
    regRead s 0x024#12 = number s.nextList ∧ regRead s 0x028#12 = number s.curList ∧
    regRead s 0x02C#12 = s.wordCnt ∧ regRead s 0x030#12 = s.fetchCnt ∧
    regRead s 0x040#12 = s.timing.hFp.setWidth 32 ∧ regRead s 0x044#12 = s.timing.hSync.setWidth 32 ∧
    regRead s 0x048#12 = s.timing.hBp.setWidth 32 ∧ regRead s 0x04C#12 = s.timing.hActive.setWidth 32 ∧
    regRead s 0x050#12 = s.timing.vFp.setWidth 32 ∧ regRead s 0x054#12 = s.timing.vSync.setWidth 32 ∧
    regRead s 0x058#12 = s.timing.vBp.setWidth 32 ∧ regRead s 0x05C#12 = s.timing.vActive.setWidth 32 ∧
    regRead s 0x060#12 = s.timing.pol.setWidth 32 ∧ regRead s 0x064#12 = s.timing.bitClkKhz ∧
    regRead s 0x068#12 = s.txDst.l0 ∧ regRead s 0x06C#12 = s.txDst.l1 ∧ regRead s 0x070#12 = s.txDst.l2 ∧
    regRead s 0x100#12 = 0x000D5354#32 ∧ regRead s 0x104#12 = 0x0002ACAB#32 ∧
    regRead s 0x108#12 = 0x00055154#32 ∧ regRead s 0x10C#12 = 0x000AAEAB#32) ∧
  (∀ (s : State) (v : Word),
    regWrite 0x00C#12 v s = .next { s with arg0 := v } ∧
    regWrite 0x010#12 v s = .next { s with arg1 := v } ∧
    (∀ r : Reg, r = .res0 ∨ r = .res1 ∨ r = .vstate ∨ r = .vctr ∨ r = .nextList ∨ r = .curList ∨
        r = .wordCnt ∨ r = .fetchCnt ∨ (∃ c, r = .symw c) ∨ (∃ q l b w, r = .desc q l b w) →
      regWrite (regOffset r) v s = .next s) ∧
    (∀ off : Offset, regAt off = none → regWrite off v s = .next s)) ∧
  (∀ (s : State) (off : Offset), off.toNat % 4 = 0 →
    hostRead .word off s = { s with host := { s.host with lastRead := regRead s off } }) ∧
  (∀ (s : State) (off : Offset), regAt off = none → regRead s off = 0#32)

/-- R71: the register map: the registers below DESC at their offsets (DESC's are DescriptorOffsets), the model's
table of offsets agreeing with the map, and every other offset unmapped. -/
def Obligations.RegisterMap : Prop :=
  (∀ e ∈ ([(0x000#12, .ctrl), (0x004#12, .status), (0x008#12, .cmd), (0x00C#12, .arg0), (0x010#12, .arg1),
      (0x014#12, .res0), (0x018#12, .res1), (0x01C#12, .vstate), (0x020#12, .vctr),
      (0x024#12, .nextList), (0x028#12, .curList), (0x02C#12, .wordCnt), (0x030#12, .fetchCnt),
      (0x040#12, .cfg .hFp), (0x044#12, .cfg .hSync), (0x048#12, .cfg .hBp), (0x04C#12, .cfg .hActive),
      (0x050#12, .cfg .vFp), (0x054#12, .cfg .vSync), (0x058#12, .cfg .vBp), (0x05C#12, .cfg .vActive),
      (0x060#12, .cfg .pol), (0x064#12, .cfg .bitClkKhz), (0x068#12, .cfg (.txDst .lane0)),
      (0x06C#12, .cfg (.txDst .lane1)), (0x070#12, .cfg (.txDst .lane2)),
      (0x100#12, .symw 0#2), (0x104#12, .symw 1#2), (0x108#12, .symw 2#2), (0x10C#12, .symw 3#2)] :
      List (Offset × Reg)), regAt e.1 = some e.2 ∧ regOffset e.2 = e.1) ∧
  (∀ r : Reg, regAt (regOffset r) = some r) ∧
  (∀ off : Offset, regAt off = none ↔
    off.toNat % 4 ≠ 0 ∨ (0x034 ≤ off.toNat ∧ off.toNat < 0x040) ∨
      (0x074 ≤ off.toNat ∧ off.toNat < 0x100) ∨ (0x110 ≤ off.toNat ∧ off.toNat < 0x400) ∨
      0x700 ≤ off.toNat)

/-- R40: word W of slot b of lane l of list s reads at offset 0x400 + 0xC0*s + 0x40*l + 0x10*b + 4*W. -/
def Obligations.DescriptorOffsets : Prop :=
  ∀ (s : State) (list : LineState) (l : Lane) (b : Slot),
    let base := 0x400 + 0xC0 * (lineStateBits list).toNat + 0x40 * laneNumber l + 0x10 * slotNumber b
    regRead s (BitVec.ofNat 12 base) = (descAt s.desc list l b).src ∧
      regRead s (BitVec.ofNat 12 (base + 4)) = (descAt s.desc list l b).dst ∧
      regRead s (BitVec.ofNat 12 (base + 8)) = (descAt s.desc list l b).count ∧
      regRead s (BitVec.ofNat 12 (base + 12)) = (descAt s.desc list l b).dctrl

/-- R74, R264: a HOST access to the window that is not a 32-bit access at a multiple of 4 leaves the block's state
unchanged and the HOST stuck, and a stuck HOST takes no further step. The flag for it, and that a turn without a step
leaves the state as it is, are the model's choices (log 7, log 2). -/
def Obligations.BusFaultSticksTheHost : Prop :=
  (∀ (s : State) (width : AccessWidth) (off : Offset) (v : Word),
    ¬ (width = .word ∧ off.toNat % 4 = 0) →
      hostRead width off s = { s with host := { s.host with stuck := true } } ∧
        hostWrite width off v s = .next { s with host := { s.host with stuck := true } }) ∧
  (∀ s : State, s.host.stuck = true → runAgent .host s = .next s)

/-- R13, R70, R72, R78 (e), R80, R82, R274: a write to system memory at a multiple of its width, by the HOST or by
another core, stores its bytes there, little-endian, and changes nothing else: every byte outside them reads as before,
and a later FETCHER read of a word so written, where it is admitted, gives the value written. Another core's step that
is no such write changes nothing. The widths below 32 bits and the other core's own step are the model's (log 9, log 17).
The spec marks this as its own inference (R82). -/
def Obligations.HostMemoryWrite : Prop :=
  (∀ (s : State) (width : AccessWidth) (addr v : Word), memCanonical s = true →
    inWindow s.params addr = false → addr.toNat % width.bytes = 0 → ∃ t : State,
      hostMemWrite width addr v s = .next t ∧
      runAgent (.otherCore width addr v) s = .next t ∧
      t = { s with mem := t.mem } ∧ memCanonical t = true ∧
      (∀ k : Nat, k < width.bytes → memByte t (addr.toNat + k) = v.extractLsb' (8 * k) 8) ∧
      (∀ a : Nat, a < addr.toNat ∨ addr.toNat + width.bytes ≤ a → memByte t a = memByte s a) ∧
      (width = .word → memAdmits s.params addr = true → memRead t addr = .word v)) ∧
  (∀ (s : State) (width : AccessWidth) (addr v : Word),
    inWindow s.params addr = true ∨ addr.toNat % width.bytes ≠ 0 →
      runAgent (.otherCore width addr v) s = .next s)

/-! ## The transmit engine -/

/-- R220, R221: a HOST write to CTRL always writes IRQ_EN; bit 0 starts the engine where it is stopped and the
checks pass, and is refused with START_REFUSED where one fails; RUN set stays set. The start loads slot 0 of the
chosen list on every lane, empties the FIFOs, zeroes the counters, and reports an unchosen line in MISSED. -/
def Obligations.CtrlWriteRule : Prop :=
  ∀ (s : State) (v : Word),
    let en := { s with ctrl := { s.ctrl with irqEn := v.getLsbD 1 } }
    let refused := s.status.built = false ∨ vValid s.timing = false ∨
      (s.nextList = .active ∧ s.status.srcValid = false)
    let loaded := fun l : Lane =>
      (⟨.slot0, (descAt s.desc s.nextList l .slot0).count, (descAt s.desc s.nextList l .slot0).src,
        (descAt s.desc s.nextList l .slot0).dctrl⟩ : LaneFetch)
    (v.getLsbD 0 = false ∨ s.ctrl.run = true → regWrite 0x000#12 v s = .next en) ∧
    (v.getLsbD 0 = true → s.ctrl.run = false → refused →
      regWrite 0x000#12 v s = .next (cmdError .startRefused en)) ∧
    (v.getLsbD 0 = true → s.ctrl.run = false → ¬ refused →
      regWrite 0x000#12 v s = .next { s with
        ctrl := ⟨true, v.getLsbD 1⟩
        wordCnt := 0#32
        fetchCnt := 0#32
        fifo := ⟨[], [], []⟩
        curList := s.nextList
        status := { s.status with missed := s.status.missed || !s.armed }
        armed := false
        fetcher := ⟨⟨loaded .lane0, loaded .lane1, loaded .lane2⟩, .lane0⟩ })

/-- R221, R25: no step but RESET's clears RUN. -/
def Obligations.RunStaysSet : Prop :=
  ∀ (a : Agent) (s t : State), runAgent a s = .next t → a ≠ .reset → s.ctrl.run = true →
    t.ctrl.run = true

/-- R223, R224: an enabled FETCHER read for lane 0 or 1 of an admitted word appends that word to the lane's FIFO,
counts the block down, steps the address by 4 for INCR_READ, moves FK on, and changes nothing else. -/
def Obligations.FetchReadAppends : Prop :=
  ∀ (s : State) (w : Word), fetchEnabled s = true → s.fetcher.fk ≠ .lane2 →
    let l := s.fetcher.fk
    let f := s.fetcher.lanes.get l
    memRead s f.addr = .word w → 1 ≤ f.rem.toNat → ∃ g : LaneFetch,
      runAgent .fetcher s = .next { s with
        fifo := s.fifo.set l (s.fifo.get l ++ [w])
        fetcher := ⟨s.fetcher.lanes.set l g, if l = .lane0 then .lane1 else .lane2⟩ } ∧
      g.slot = f.slot ∧ g.dc = f.dc ∧ g.rem.toNat = f.rem.toNat - 1 ∧
      g.addr.toNat = (if f.dc.getLsbD 0 = true then (f.addr.toNat + 4) % 2 ^ 32 else f.addr.toNat)

/-- R80, R263: an enabled FETCHER read outside the window and MEM_ADMIT raises TxFault with cause 0x01 and changes
nothing else: RUN stays 1 and nothing is appended. -/
def Obligations.FetchOutsideAdmitFaults : Prop :=
  ∀ s : State, fetchEnabled s = true →
    let addr := (s.fetcher.lanes.get s.fetcher.fk).addr
    addr.toNat % 4 = 0 → inWindow s.params addr = false → memAdmits s.params addr = false →
      runAgent .fetcher s =
        .next { s with status := { s.status with txFault := true, txFaultCause := 0x01#8 } }

/-- R222, R233, R234: with RUN = 0 or after a TxFault neither the FETCHER nor the EMITTER changes anything, a fetch
slot does not start while a FIFO is full, and nothing is emitted while a FIFO is empty. That the turn of an agent whose
step is not enabled leaves the state as it is, is the model's choice (log 2). -/
def Obligations.EngineWaitsWhereNotEnabled : Prop :=
  ∀ s : State,
    (s.ctrl.run = false ∨ s.status.txFault = true →
      runAgent .fetcher s = .next s ∧ runAgent .emitter s = .next s) ∧
    (∀ l : Lane, s.fetcher.fk = .lane0 → fifoDepth s.params ≤ (s.fifo.get l).length →
      runAgent .fetcher s = .next s) ∧
    (∀ l : Lane, s.fifo.get l = [] → runAgent .emitter s = .next s)

/-- R235, R236: an EMITTER step takes the head of each FIFO, appends its low 20 bits to OUT, counts it, and changes
nothing else; on every lane the symbol of bits 9:0 is sent before that of bits 19:10, each bit 0 first. -/
def Obligations.EmitTakesHeads : Prop :=
  ∀ (s : State) (w0 w1 w2 : Word) (q0 q1 q2 : List Word), s.ctrl.run = true →
    s.status.txFault = false → s.fifo = ⟨w0 :: q0, w1 :: q1, w2 :: q2⟩ → ∃ t0 t1 t2 : Pair,
      runAgent .emitter s = .next { s with
        fifo := ⟨q0, q1, q2⟩
        out := s.out ++ [⟨t0, t1, t2⟩]
        wordCnt := BitVec.ofNat 32 (s.wordCnt.toNat + 1) } ∧
      t0.toNat = w0.toNat % 2 ^ 20 ∧ t1.toNat = w1.toNat % 2 ^ 20 ∧ t2.toNat = w2.toNat % 2 ^ 20 ∧
      ∀ l : Lane,
        let w := (⟨w0, w1, w2⟩ : Lanes Word).get l
        laneSymbols (s.out ++ [⟨t0, t1, t2⟩]) l =
          laneSymbols s.out l ++ [w.extractLsb' 0 10, w.extractLsb' 10 10] ∧
        laneBits (s.out ++ [⟨t0, t1, t2⟩]) l =
          laneBits s.out l ++ (List.range 20).map fun i => w.getLsbD i

/-- R36, R37, R239: the engine reads neither VSTATE, VCTR, BIT_CLK_KHZ, TX_DST nor the DST words of DESC: from states
that differ only in those, a FETCHER step gives states that differ only in those (here: the same outcome with those
fields carried over), whether its read goes to memory or to the window, SYMW among it, but for a read aimed at one of
these very registers; an EMITTER step likewise. The spec marks this as its own inference (R239). -/
def Obligations.EngineIgnoresTimingState : Prop :=
  ∀ (s t : State) (vs : LineState) (vc khz : Word) (dst : Lanes Word) (d : DescRam),
    (∀ (list : LineState) (l : Lane) (b : Slot),
      descAt d list l b = { descAt s.desc list l b with dst := (descAt d list l b).dst }) →
    let other := fun x : State =>
      { x with vstate := vs, vctr := vc, timing := { x.timing with bitClkKhz := khz }, txDst := dst, desc := d }
    let addr := (s.fetcher.lanes.get s.fetcher.fk).addr
    let off := (windowOffset addr).toNat
    ((inWindow s.params addr = true →
        off ∉ [0x01C, 0x020, 0x064, 0x068, 0x06C, 0x070] ∧
          ¬ (0x400 ≤ off ∧ off < 0x700 ∧ off % 0x10 = 4)) →
      runAgent .fetcher s = .next t → runAgent .fetcher (other s) = .next (other t)) ∧
    (runAgent .emitter s = .next t → runAgent .emitter (other s) = .next (other t))

/-! ## The invariant -/

/-- The machine after reset meets the invariant, for every value of the parameters.
The spec marks this as its own inference (R61). -/
def Obligations.ResetMeetsInvariant : Prop :=
  ∀ p : Params, Inv { State.reset with params := p }

/-- R61, R198, R272: every step of every agent keeps the invariant.
The spec marks this as its own inference (R61, R198, R272). -/
def Obligations.EveryStepKeepsInvariant : Prop :=
  ∀ s t : State, Inv s → step s = .next t → Inv t

/-- R77, R198, R223: under the invariant no step ends in one of the engine's model faults: no misaligned fetch, no
read past a block, no load past the last slot (the model's stops, log 10). A step has a next state, or the HOST
made a misaligned memory write (log 9). The spec marks this as its own inference (R77, R198, R223). -/
def Obligations.InvariantRulesOutEngineFaults : Prop :=
  ∀ s : State, Inv s →
    (∃ t, step s = .next t) ∨
      (step s = .fault .memWriteMisaligned ∧
        ∃ (width : AccessWidth) (addr v : Word) (rest : List HostOp),
          s.host.program = .memWrite width addr v :: rest ∧
            (HostOp.memWrite width addr v).wf = false)

/-- R199, R222 to R227, R301: under the invariant, the FETCHER read that completes a fetch slot (lane 2's) has a next
state. It appends its word to FIFO[2], counts one slot in FETCHCNT, and changes nothing but what is named here. It
raises LINE_IRQ exactly when the line then has H_ACTIVE/2 words left, with IRQ_OVR if it was still 1. Where words are
left, a lane whose block is complete loads the next slot of CUR_LIST from DESC as it is in this step, and any other
lane keeps its block. Where none is left it crosses to NEXT_LIST, loads that list's slot 0 on every lane, and reports
MISSED if no list was submitted. The spec marks this as its own inference (R227, R301). -/
def Obligations.LineEventsByPosition : Prop :=
  ∀ (s : State) (w : Word), Inv s → fetchEnabled s = true → s.fetcher.fk = .lane2 →
    memRead s s.fetcher.lanes.l2.addr = .word w → ∃ t : State, runAgent .fetcher s = .next t ∧
      let left := laneLeft s .lane2 - 1
      let half := s.timing.hActive.toNat / 2
      let f := s.fetcher.lanes.l2
      let read : Lanes LaneFetch :=
        { s.fetcher.lanes with
          l2 := { f with addr := if f.dc.getLsbD 0 = true then f.addr + 4#32 else f.addr, rem := f.rem - 1#32 } }
      let loaded := fun (list : LineState) (l : Lane) (b : Slot) =>
        (⟨b, (descAt s.desc list l b).count, (descAt s.desc list l b).src,
          (descAt s.desc list l b).dctrl⟩ : LaneFetch)
      t = { s with
        fifo := { s.fifo with l2 := s.fifo.l2 ++ [w] }
        fetchCnt := s.fetchCnt + 1#32
        fetcher := ⟨t.fetcher.lanes, .lane0⟩
        curList := t.curList
        armed := t.armed
        status := { s.status with
          lineIrq := s.status.lineIrq || decide (left = half)
          irqOvr := s.status.irqOvr || (s.status.lineIrq && decide (left = half))
          missed := t.status.missed } } ∧
      (left ≠ 0 → t.curList = s.curList ∧ t.armed = s.armed ∧ t.status.missed = s.status.missed ∧
        laneLeft t .lane2 = left ∧
        ∀ l : Lane,
          ((read.get l).rem = 0#32 → ∃ b : Slot, slotNumber b = slotNumber (read.get l).slot + 1 ∧
            t.fetcher.lanes.get l = loaded s.curList l b) ∧
          ((read.get l).rem ≠ 0#32 → t.fetcher.lanes.get l = read.get l)) ∧
      (left = 0 → t.curList = s.nextList ∧ t.armed = false ∧
        t.status.missed = (s.status.missed || !s.armed) ∧ laneLeft t .lane2 = lineWords s.timing ∧
        ∀ l : Lane, t.fetcher.lanes.get l = loaded s.nextList l .slot0)

/-- R224, R235, R238: OUT followed by what the FIFOs hold is, lane by lane, the low 20 bits of the words the FETCHER
read, in the order it read them: an enabled FETCHER read of a word appends that word to its lane's stream, and no other
step but RESET's changes any lane's stream. The spec marks this as its own inference (R238). -/
def Obligations.OutIsInFetchOrder : Prop :=
  ∀ (a : Agent) (s t : State), Inv s → a ≠ .reset → runAgent a s = .next t → ∀ l : Lane,
    let stream := fun x : State => (x.out.map fun p => p.get l) ++ (x.fifo.get l).map emitBits
    let reads := fun w : Word => a = .fetcher ∧ fetchEnabled s = true ∧ s.fetcher.fk = l ∧
      memRead s (s.fetcher.lanes.get l).addr = .word w
    (∀ w : Word, reads w →
      (emitBits w).toNat = w.toNat % 2 ^ 20 ∧ stream t = stream s ++ [emitBits w]) ∧
    ((∀ w : Word, ¬ reads w) → stream t = stream s)

/-- R192, R196, R197, R238: under the invariant and while the engine runs, the word a lane reads next, by the number
of words the lane has left in the line: outside the Active list's active region it is SYMW0 on lanes 1 and 2, and on
lane 0 SYMW[pulse] for the H_SYNC/2 words before the back porch and SYMW[idle] for every other word.
The spec marks this as its own inference (R196, R197, R238). -/
def Obligations.BlankingWordsByPosition : Prop :=
  ∀ (s : State) (l : Lane), Inv s → s.ctrl.run = true → laneAhead s.fetcher.fk l = 0 →
    let n := laneLeft s l
    let act := s.timing.hActive.toNat / 2
    let bp := s.timing.hBp.toNat / 2
    let sync := s.timing.hSync.toNat / 2
    s.curList ≠ .active ∨ act < n →
      memRead s (s.fetcher.lanes.get l).addr = .word (symw
        (if l ≠ .lane0 then 0#2
         else if bp + act < n ∧ n ≤ sync + bp + act then pulseIndex s.timing.pol s.curList
         else idleIndex s.timing.pol s.curList))

/-! ## Reset and the HOST's other steps -/

/-- R60, R290: the RESET step gives every state element of the block its reset value, and keeps system memory and
the parameters; a TX_WAIT's hold ends. -/
def Obligations.ResetStepRule : Prop :=
  ∀ s : State, ∃ t : State, runAgent .reset s = .next t ∧
    t.mem = s.mem ∧ t.params = s.params ∧ t.host.holding = false ∧
    ctrlWord t.ctrl = 0#32 ∧ statusWord t.status = 0#32 ∧
    t.arg0 = 0#32 ∧ t.arg1 = 0#32 ∧ t.res0 = 0#32 ∧ t.res1 = 0#32 ∧
    t.vstate = .frontPorch ∧ t.vctr = 0#32 ∧ t.nextList = .frontPorch ∧ t.curList = .frontPorch ∧
    t.wordCnt = 0#32 ∧ t.fetchCnt = 0#32 ∧ (∀ r : CfgReg, readCfg t r = 0#32) ∧
    (∀ (list : LineState) (l : Lane) (b : Slot),
      descAt t.desc list l b = ⟨0#32, 0#32, 0#32, 0#32⟩) ∧
    t.armed = false ∧ t.fetcher.fk = .lane0 ∧
    (∀ l : Lane, t.fetcher.lanes.get l = ⟨.slot0, 0#32, 0#32, 0#32⟩) ∧
    (∀ l : Lane, t.fifo.get l = []) ∧ t.out = [] ∧ irqOutput t = false

/-- R59, R107, R266: WAIT_IRQ holds the HOST until LINE_IRQ and IRQ_EN are both 1, and then changes nothing but the
HOST's place in its program. The HOST's program and a turn without a step are the model's (log 1, log 2). -/
def Obligations.WaitIrqRule : Prop :=
  ∀ (s : State) (rest : List HostOp), s.host.stuck = false → s.host.holding = false →
    s.host.program = .waitIrq :: rest →
      (s.status.lineIrq = true → s.ctrl.irqEn = true →
        runAgent .host s = .next { s with host := { s.host with program := rest } }) ∧
      (s.status.lineIrq = false ∨ s.ctrl.irqEn = false → runAgent .host s = .next s)
end

