-- ==== Sys2Proof/Laws/State.lean ====
section
/-! SUPPORT. One lemma per field per named update of the state: what the update leaves and what it writes. -/

namespace Sys2Proof.Machine

/-! ### cmdError: CmdError (R261) -/

@[simp] theorem cmdError_params (c : CmdCause) (s : State) : (cmdError c s).params = s.params := rfl
@[simp] theorem cmdError_mem (c : CmdCause) (s : State) : (cmdError c s).mem = s.mem := rfl
@[simp] theorem cmdError_host (c : CmdCause) (s : State) : (cmdError c s).host = s.host := rfl
@[simp] theorem cmdError_agenda (c : CmdCause) (s : State) : (cmdError c s).agenda = s.agenda := rfl
@[simp] theorem cmdError_ctrl (c : CmdCause) (s : State) : (cmdError c s).ctrl = s.ctrl := rfl
@[simp] theorem cmdError_status (c : CmdCause) (s : State) :
    (cmdError c s).status = statusAfterCmdError c s.status := rfl
@[simp] theorem cmdError_arg0 (c : CmdCause) (s : State) : (cmdError c s).arg0 = s.arg0 := rfl
@[simp] theorem cmdError_arg1 (c : CmdCause) (s : State) : (cmdError c s).arg1 = s.arg1 := rfl
@[simp] theorem cmdError_res0 (c : CmdCause) (s : State) : (cmdError c s).res0 = s.res0 := rfl
@[simp] theorem cmdError_res1 (c : CmdCause) (s : State) : (cmdError c s).res1 = s.res1 := rfl
@[simp] theorem cmdError_timing (c : CmdCause) (s : State) : (cmdError c s).timing = s.timing := rfl
@[simp] theorem cmdError_txDst (c : CmdCause) (s : State) : (cmdError c s).txDst = s.txDst := rfl
@[simp] theorem cmdError_vstate (c : CmdCause) (s : State) : (cmdError c s).vstate = s.vstate := rfl
@[simp] theorem cmdError_vctr (c : CmdCause) (s : State) : (cmdError c s).vctr = s.vctr := rfl
@[simp] theorem cmdError_desc (c : CmdCause) (s : State) : (cmdError c s).desc = s.desc := rfl
@[simp] theorem cmdError_nextList (c : CmdCause) (s : State) : (cmdError c s).nextList = s.nextList := rfl
@[simp] theorem cmdError_curList (c : CmdCause) (s : State) : (cmdError c s).curList = s.curList := rfl
@[simp] theorem cmdError_wordCnt (c : CmdCause) (s : State) : (cmdError c s).wordCnt = s.wordCnt := rfl
@[simp] theorem cmdError_fetchCnt (c : CmdCause) (s : State) : (cmdError c s).fetchCnt = s.fetchCnt := rfl
@[simp] theorem cmdError_armed (c : CmdCause) (s : State) : (cmdError c s).armed = s.armed := rfl
@[simp] theorem cmdError_fetcher (c : CmdCause) (s : State) : (cmdError c s).fetcher = s.fetcher := rfl
@[simp] theorem cmdError_fifo (c : CmdCause) (s : State) : (cmdError c s).fifo = s.fifo := rfl
@[simp] theorem cmdError_out (c : CmdCause) (s : State) : (cmdError c s).out = s.out := rfl

/-! ### txFault: TxFault (R263) -/

@[simp] theorem txFault_params (s : State) : (txFault s).params = s.params := rfl
@[simp] theorem txFault_mem (s : State) : (txFault s).mem = s.mem := rfl
@[simp] theorem txFault_host (s : State) : (txFault s).host = s.host := rfl
@[simp] theorem txFault_agenda (s : State) : (txFault s).agenda = s.agenda := rfl
@[simp] theorem txFault_ctrl (s : State) : (txFault s).ctrl = s.ctrl := rfl
@[simp] theorem txFault_status (s : State) :
    (txFault s).status = { s.status with txFault := true, txFaultCause := busErrorCode } := rfl
@[simp] theorem txFault_arg0 (s : State) : (txFault s).arg0 = s.arg0 := rfl
@[simp] theorem txFault_arg1 (s : State) : (txFault s).arg1 = s.arg1 := rfl
@[simp] theorem txFault_res0 (s : State) : (txFault s).res0 = s.res0 := rfl
@[simp] theorem txFault_res1 (s : State) : (txFault s).res1 = s.res1 := rfl
@[simp] theorem txFault_timing (s : State) : (txFault s).timing = s.timing := rfl
@[simp] theorem txFault_txDst (s : State) : (txFault s).txDst = s.txDst := rfl
@[simp] theorem txFault_vstate (s : State) : (txFault s).vstate = s.vstate := rfl
@[simp] theorem txFault_vctr (s : State) : (txFault s).vctr = s.vctr := rfl
@[simp] theorem txFault_desc (s : State) : (txFault s).desc = s.desc := rfl
@[simp] theorem txFault_nextList (s : State) : (txFault s).nextList = s.nextList := rfl
@[simp] theorem txFault_curList (s : State) : (txFault s).curList = s.curList := rfl
@[simp] theorem txFault_wordCnt (s : State) : (txFault s).wordCnt = s.wordCnt := rfl
@[simp] theorem txFault_fetchCnt (s : State) : (txFault s).fetchCnt = s.fetchCnt := rfl
@[simp] theorem txFault_armed (s : State) : (txFault s).armed = s.armed := rfl
@[simp] theorem txFault_fetcher (s : State) : (txFault s).fetcher = s.fetcher := rfl
@[simp] theorem txFault_fifo (s : State) : (txFault s).fifo = s.fifo := rfl
@[simp] theorem txFault_out (s : State) : (txFault s).out = s.out := rfl

/-! ### writeStatus: the STATUS write (R27) -/

@[simp] theorem writeStatus_params (v : Word) (s : State) : (writeStatus v s).params = s.params := rfl
@[simp] theorem writeStatus_mem (v : Word) (s : State) : (writeStatus v s).mem = s.mem := rfl
@[simp] theorem writeStatus_host (v : Word) (s : State) : (writeStatus v s).host = s.host := rfl
@[simp] theorem writeStatus_agenda (v : Word) (s : State) : (writeStatus v s).agenda = s.agenda := rfl
@[simp] theorem writeStatus_ctrl (v : Word) (s : State) : (writeStatus v s).ctrl = s.ctrl := rfl
@[simp] theorem writeStatus_status (v : Word) (s : State) :
    (writeStatus v s).status = statusAfterWrite v s.status := rfl
@[simp] theorem writeStatus_arg0 (v : Word) (s : State) : (writeStatus v s).arg0 = s.arg0 := rfl
@[simp] theorem writeStatus_arg1 (v : Word) (s : State) : (writeStatus v s).arg1 = s.arg1 := rfl
@[simp] theorem writeStatus_res0 (v : Word) (s : State) : (writeStatus v s).res0 = s.res0 := rfl
@[simp] theorem writeStatus_res1 (v : Word) (s : State) : (writeStatus v s).res1 = s.res1 := rfl
@[simp] theorem writeStatus_timing (v : Word) (s : State) : (writeStatus v s).timing = s.timing := rfl
@[simp] theorem writeStatus_txDst (v : Word) (s : State) : (writeStatus v s).txDst = s.txDst := rfl
@[simp] theorem writeStatus_vstate (v : Word) (s : State) : (writeStatus v s).vstate = s.vstate := rfl
@[simp] theorem writeStatus_vctr (v : Word) (s : State) : (writeStatus v s).vctr = s.vctr := rfl
@[simp] theorem writeStatus_desc (v : Word) (s : State) : (writeStatus v s).desc = s.desc := rfl
@[simp] theorem writeStatus_nextList (v : Word) (s : State) : (writeStatus v s).nextList = s.nextList := rfl
@[simp] theorem writeStatus_curList (v : Word) (s : State) : (writeStatus v s).curList = s.curList := rfl
@[simp] theorem writeStatus_wordCnt (v : Word) (s : State) : (writeStatus v s).wordCnt = s.wordCnt := rfl
@[simp] theorem writeStatus_fetchCnt (v : Word) (s : State) : (writeStatus v s).fetchCnt = s.fetchCnt := rfl
@[simp] theorem writeStatus_armed (v : Word) (s : State) : (writeStatus v s).armed = s.armed := rfl
@[simp] theorem writeStatus_fetcher (v : Word) (s : State) : (writeStatus v s).fetcher = s.fetcher := rfl
@[simp] theorem writeStatus_fifo (v : Word) (s : State) : (writeStatus v s).fifo = s.fifo := rfl
@[simp] theorem writeStatus_out (v : Word) (s : State) : (writeStatus v s).out = s.out := rfl

/-! ### storeMem: MemWrite (R13, R72) -/

@[simp] theorem storeMem_params (w : AccessWidth) (a v : Word) (s : State) :
    (storeMem w a v s).params = s.params := rfl
@[simp] theorem storeMem_mem (w : AccessWidth) (a v : Word) (s : State) :
    (storeMem w a v s).mem = s.mem.writeBytes (oracleByte s.params) a.toNat v w.bytes := rfl
@[simp] theorem storeMem_host (w : AccessWidth) (a v : Word) (s : State) :
    (storeMem w a v s).host = s.host := rfl
@[simp] theorem storeMem_agenda (w : AccessWidth) (a v : Word) (s : State) :
    (storeMem w a v s).agenda = s.agenda := rfl
@[simp] theorem storeMem_ctrl (w : AccessWidth) (a v : Word) (s : State) :
    (storeMem w a v s).ctrl = s.ctrl := rfl
@[simp] theorem storeMem_status (w : AccessWidth) (a v : Word) (s : State) :
    (storeMem w a v s).status = s.status := rfl
@[simp] theorem storeMem_arg0 (w : AccessWidth) (a v : Word) (s : State) :
    (storeMem w a v s).arg0 = s.arg0 := rfl
@[simp] theorem storeMem_arg1 (w : AccessWidth) (a v : Word) (s : State) :
    (storeMem w a v s).arg1 = s.arg1 := rfl
@[simp] theorem storeMem_res0 (w : AccessWidth) (a v : Word) (s : State) :
    (storeMem w a v s).res0 = s.res0 := rfl
@[simp] theorem storeMem_res1 (w : AccessWidth) (a v : Word) (s : State) :
    (storeMem w a v s).res1 = s.res1 := rfl
@[simp] theorem storeMem_timing (w : AccessWidth) (a v : Word) (s : State) :
    (storeMem w a v s).timing = s.timing := rfl
@[simp] theorem storeMem_txDst (w : AccessWidth) (a v : Word) (s : State) :
    (storeMem w a v s).txDst = s.txDst := rfl
@[simp] theorem storeMem_vstate (w : AccessWidth) (a v : Word) (s : State) :
    (storeMem w a v s).vstate = s.vstate := rfl
@[simp] theorem storeMem_vctr (w : AccessWidth) (a v : Word) (s : State) :
    (storeMem w a v s).vctr = s.vctr := rfl
@[simp] theorem storeMem_desc (w : AccessWidth) (a v : Word) (s : State) :
    (storeMem w a v s).desc = s.desc := rfl
@[simp] theorem storeMem_nextList (w : AccessWidth) (a v : Word) (s : State) :
    (storeMem w a v s).nextList = s.nextList := rfl
@[simp] theorem storeMem_curList (w : AccessWidth) (a v : Word) (s : State) :
    (storeMem w a v s).curList = s.curList := rfl
@[simp] theorem storeMem_wordCnt (w : AccessWidth) (a v : Word) (s : State) :
    (storeMem w a v s).wordCnt = s.wordCnt := rfl
@[simp] theorem storeMem_fetchCnt (w : AccessWidth) (a v : Word) (s : State) :
    (storeMem w a v s).fetchCnt = s.fetchCnt := rfl
@[simp] theorem storeMem_armed (w : AccessWidth) (a v : Word) (s : State) :
    (storeMem w a v s).armed = s.armed := rfl
@[simp] theorem storeMem_fetcher (w : AccessWidth) (a v : Word) (s : State) :
    (storeMem w a v s).fetcher = s.fetcher := rfl
@[simp] theorem storeMem_fifo (w : AccessWidth) (a v : Word) (s : State) :
    (storeMem w a v s).fifo = s.fifo := rfl
@[simp] theorem storeMem_out (w : AccessWidth) (a v : Word) (s : State) :
    (storeMem w a v s).out = s.out := rfl

/-! ### setResults: RES0 and RES1 (R23) -/

@[simp] theorem setResults_params (a b : Word) (s : State) : (setResults a b s).params = s.params := rfl
@[simp] theorem setResults_mem (a b : Word) (s : State) : (setResults a b s).mem = s.mem := rfl
@[simp] theorem setResults_host (a b : Word) (s : State) : (setResults a b s).host = s.host := rfl
@[simp] theorem setResults_agenda (a b : Word) (s : State) : (setResults a b s).agenda = s.agenda := rfl
@[simp] theorem setResults_ctrl (a b : Word) (s : State) : (setResults a b s).ctrl = s.ctrl := rfl
@[simp] theorem setResults_status (a b : Word) (s : State) : (setResults a b s).status = s.status := rfl
@[simp] theorem setResults_arg0 (a b : Word) (s : State) : (setResults a b s).arg0 = s.arg0 := rfl
@[simp] theorem setResults_arg1 (a b : Word) (s : State) : (setResults a b s).arg1 = s.arg1 := rfl
@[simp] theorem setResults_res0 (a b : Word) (s : State) : (setResults a b s).res0 = a := rfl
@[simp] theorem setResults_res1 (a b : Word) (s : State) : (setResults a b s).res1 = b := rfl
@[simp] theorem setResults_timing (a b : Word) (s : State) : (setResults a b s).timing = s.timing := rfl
@[simp] theorem setResults_txDst (a b : Word) (s : State) : (setResults a b s).txDst = s.txDst := rfl
@[simp] theorem setResults_vstate (a b : Word) (s : State) : (setResults a b s).vstate = s.vstate := rfl
@[simp] theorem setResults_vctr (a b : Word) (s : State) : (setResults a b s).vctr = s.vctr := rfl
@[simp] theorem setResults_desc (a b : Word) (s : State) : (setResults a b s).desc = s.desc := rfl
@[simp] theorem setResults_nextList (a b : Word) (s : State) : (setResults a b s).nextList = s.nextList := rfl
@[simp] theorem setResults_curList (a b : Word) (s : State) : (setResults a b s).curList = s.curList := rfl
@[simp] theorem setResults_wordCnt (a b : Word) (s : State) : (setResults a b s).wordCnt = s.wordCnt := rfl
@[simp] theorem setResults_fetchCnt (a b : Word) (s : State) : (setResults a b s).fetchCnt = s.fetchCnt := rfl
@[simp] theorem setResults_armed (a b : Word) (s : State) : (setResults a b s).armed = s.armed := rfl
@[simp] theorem setResults_fetcher (a b : Word) (s : State) : (setResults a b s).fetcher = s.fetcher := rfl
@[simp] theorem setResults_fifo (a b : Word) (s : State) : (setResults a b s).fifo = s.fifo := rfl
@[simp] theorem setResults_out (a b : Word) (s : State) : (setResults a b s).out = s.out := rfl

/-! ### patchActive: the patch (R200) -/

@[simp] theorem patchActive_params (p k : Word) (s : State) : (patchActive p k s).params = s.params := rfl
@[simp] theorem patchActive_mem (p k : Word) (s : State) : (patchActive p k s).mem = s.mem := rfl
@[simp] theorem patchActive_host (p k : Word) (s : State) : (patchActive p k s).host = s.host := rfl
@[simp] theorem patchActive_agenda (p k : Word) (s : State) : (patchActive p k s).agenda = s.agenda := rfl
@[simp] theorem patchActive_ctrl (p k : Word) (s : State) : (patchActive p k s).ctrl = s.ctrl := rfl
@[simp] theorem patchActive_status (p k : Word) (s : State) :
    (patchActive p k s).status = { s.status with srcValid := true } := rfl
@[simp] theorem patchActive_arg0 (p k : Word) (s : State) : (patchActive p k s).arg0 = s.arg0 := rfl
@[simp] theorem patchActive_arg1 (p k : Word) (s : State) : (patchActive p k s).arg1 = s.arg1 := rfl
@[simp] theorem patchActive_res0 (p k : Word) (s : State) : (patchActive p k s).res0 = s.res0 := rfl
@[simp] theorem patchActive_res1 (p k : Word) (s : State) : (patchActive p k s).res1 = s.res1 := rfl
@[simp] theorem patchActive_timing (p k : Word) (s : State) : (patchActive p k s).timing = s.timing := rfl
@[simp] theorem patchActive_txDst (p k : Word) (s : State) : (patchActive p k s).txDst = s.txDst := rfl
@[simp] theorem patchActive_vstate (p k : Word) (s : State) : (patchActive p k s).vstate = s.vstate := rfl
@[simp] theorem patchActive_vctr (p k : Word) (s : State) : (patchActive p k s).vctr = s.vctr := rfl
@[simp] theorem patchActive_desc (p k : Word) (s : State) :
    (patchActive p k s).desc = patchDesc s.desc p (p + 4#32 * k) (p + 8#32 * k) := rfl
@[simp] theorem patchActive_nextList (p k : Word) (s : State) : (patchActive p k s).nextList = s.nextList := rfl
@[simp] theorem patchActive_curList (p k : Word) (s : State) : (patchActive p k s).curList = s.curList := rfl
@[simp] theorem patchActive_wordCnt (p k : Word) (s : State) : (patchActive p k s).wordCnt = s.wordCnt := rfl
@[simp] theorem patchActive_fetchCnt (p k : Word) (s : State) : (patchActive p k s).fetchCnt = s.fetchCnt := rfl
@[simp] theorem patchActive_armed (p k : Word) (s : State) : (patchActive p k s).armed = s.armed := rfl
@[simp] theorem patchActive_fetcher (p k : Word) (s : State) : (patchActive p k s).fetcher = s.fetcher := rfl
@[simp] theorem patchActive_fifo (p k : Word) (s : State) : (patchActive p k s).fifo = s.fifo := rfl
@[simp] theorem patchActive_out (p k : Word) (s : State) : (patchActive p k s).out = s.out := rfl

/-! ### submitList: the submission (R228) -/

@[simp] theorem submitList_params (list : LineState) (s : State) : (submitList list s).params = s.params := rfl
@[simp] theorem submitList_mem (list : LineState) (s : State) : (submitList list s).mem = s.mem := rfl
@[simp] theorem submitList_host (list : LineState) (s : State) : (submitList list s).host = s.host := rfl
@[simp] theorem submitList_agenda (list : LineState) (s : State) : (submitList list s).agenda = s.agenda := rfl
@[simp] theorem submitList_ctrl (list : LineState) (s : State) : (submitList list s).ctrl = s.ctrl := rfl
@[simp] theorem submitList_status (list : LineState) (s : State) : (submitList list s).status = s.status := rfl
@[simp] theorem submitList_arg0 (list : LineState) (s : State) : (submitList list s).arg0 = s.arg0 := rfl
@[simp] theorem submitList_arg1 (list : LineState) (s : State) : (submitList list s).arg1 = s.arg1 := rfl
@[simp] theorem submitList_res0 (list : LineState) (s : State) : (submitList list s).res0 = s.res0 := rfl
@[simp] theorem submitList_res1 (list : LineState) (s : State) : (submitList list s).res1 = s.res1 := rfl
@[simp] theorem submitList_timing (list : LineState) (s : State) : (submitList list s).timing = s.timing := rfl
@[simp] theorem submitList_txDst (list : LineState) (s : State) : (submitList list s).txDst = s.txDst := rfl
@[simp] theorem submitList_vstate (list : LineState) (s : State) : (submitList list s).vstate = s.vstate := rfl
@[simp] theorem submitList_vctr (list : LineState) (s : State) : (submitList list s).vctr = s.vctr := rfl
@[simp] theorem submitList_desc (list : LineState) (s : State) : (submitList list s).desc = s.desc := rfl
@[simp] theorem submitList_nextList (list : LineState) (s : State) : (submitList list s).nextList = list := rfl
@[simp] theorem submitList_curList (list : LineState) (s : State) : (submitList list s).curList = s.curList := rfl
@[simp] theorem submitList_wordCnt (list : LineState) (s : State) : (submitList list s).wordCnt = s.wordCnt := rfl
@[simp] theorem submitList_fetchCnt (list : LineState) (s : State) : (submitList list s).fetchCnt = s.fetchCnt := rfl
@[simp] theorem submitList_armed (list : LineState) (s : State) : (submitList list s).armed = true := rfl
@[simp] theorem submitList_fetcher (list : LineState) (s : State) : (submitList list s).fetcher = s.fetcher := rfl
@[simp] theorem submitList_fifo (list : LineState) (s : State) : (submitList list s).fifo = s.fifo := rfl
@[simp] theorem submitList_out (list : LineState) (s : State) : (submitList list s).out = s.out := rfl

/-! ### loadLane: the load of a slot (R223) -/

@[simp] theorem loadLane_params (l : Lane) (b : Slot) (s : State) : (loadLane l b s).params = s.params := rfl
@[simp] theorem loadLane_mem (l : Lane) (b : Slot) (s : State) : (loadLane l b s).mem = s.mem := rfl
@[simp] theorem loadLane_host (l : Lane) (b : Slot) (s : State) : (loadLane l b s).host = s.host := rfl
@[simp] theorem loadLane_agenda (l : Lane) (b : Slot) (s : State) : (loadLane l b s).agenda = s.agenda := rfl
@[simp] theorem loadLane_ctrl (l : Lane) (b : Slot) (s : State) : (loadLane l b s).ctrl = s.ctrl := rfl
@[simp] theorem loadLane_status (l : Lane) (b : Slot) (s : State) : (loadLane l b s).status = s.status := rfl
@[simp] theorem loadLane_arg0 (l : Lane) (b : Slot) (s : State) : (loadLane l b s).arg0 = s.arg0 := rfl
@[simp] theorem loadLane_arg1 (l : Lane) (b : Slot) (s : State) : (loadLane l b s).arg1 = s.arg1 := rfl
@[simp] theorem loadLane_res0 (l : Lane) (b : Slot) (s : State) : (loadLane l b s).res0 = s.res0 := rfl
@[simp] theorem loadLane_res1 (l : Lane) (b : Slot) (s : State) : (loadLane l b s).res1 = s.res1 := rfl
@[simp] theorem loadLane_timing (l : Lane) (b : Slot) (s : State) : (loadLane l b s).timing = s.timing := rfl
@[simp] theorem loadLane_txDst (l : Lane) (b : Slot) (s : State) : (loadLane l b s).txDst = s.txDst := rfl
@[simp] theorem loadLane_vstate (l : Lane) (b : Slot) (s : State) : (loadLane l b s).vstate = s.vstate := rfl
@[simp] theorem loadLane_vctr (l : Lane) (b : Slot) (s : State) : (loadLane l b s).vctr = s.vctr := rfl
@[simp] theorem loadLane_desc (l : Lane) (b : Slot) (s : State) : (loadLane l b s).desc = s.desc := rfl
@[simp] theorem loadLane_nextList (l : Lane) (b : Slot) (s : State) : (loadLane l b s).nextList = s.nextList := rfl
@[simp] theorem loadLane_curList (l : Lane) (b : Slot) (s : State) : (loadLane l b s).curList = s.curList := rfl
@[simp] theorem loadLane_wordCnt (l : Lane) (b : Slot) (s : State) : (loadLane l b s).wordCnt = s.wordCnt := rfl
@[simp] theorem loadLane_fetchCnt (l : Lane) (b : Slot) (s : State) : (loadLane l b s).fetchCnt = s.fetchCnt := rfl
@[simp] theorem loadLane_armed (l : Lane) (b : Slot) (s : State) : (loadLane l b s).armed = s.armed := rfl
@[simp] theorem loadLane_fetcher (l : Lane) (b : Slot) (s : State) :
    (loadLane l b s).fetcher = { s.fetcher with lanes := s.fetcher.lanes.set l (snapshot s.desc s.curList l b) } := rfl
@[simp] theorem loadLane_fifo (l : Lane) (b : Slot) (s : State) : (loadLane l b s).fifo = s.fifo := rfl
@[simp] theorem loadLane_out (l : Lane) (b : Slot) (s : State) : (loadLane l b s).out = s.out := rfl

/-! ### beginHold: the hold of TX_WAIT (R232) -/

@[simp] theorem beginHold_params (s : State) : (beginHold s).params = s.params := rfl
@[simp] theorem beginHold_mem (s : State) : (beginHold s).mem = s.mem := rfl
@[simp] theorem beginHold_host (s : State) : (beginHold s).host = { s.host with holding := true } := rfl
@[simp] theorem beginHold_agenda (s : State) : (beginHold s).agenda = s.agenda := rfl
@[simp] theorem beginHold_ctrl (s : State) : (beginHold s).ctrl = s.ctrl := rfl
@[simp] theorem beginHold_status (s : State) : (beginHold s).status = s.status := rfl
@[simp] theorem beginHold_arg0 (s : State) : (beginHold s).arg0 = s.arg0 := rfl
@[simp] theorem beginHold_arg1 (s : State) : (beginHold s).arg1 = s.arg1 := rfl
@[simp] theorem beginHold_res0 (s : State) : (beginHold s).res0 = s.res0 := rfl
@[simp] theorem beginHold_res1 (s : State) : (beginHold s).res1 = s.res1 := rfl
@[simp] theorem beginHold_timing (s : State) : (beginHold s).timing = s.timing := rfl
@[simp] theorem beginHold_txDst (s : State) : (beginHold s).txDst = s.txDst := rfl
@[simp] theorem beginHold_vstate (s : State) : (beginHold s).vstate = s.vstate := rfl
@[simp] theorem beginHold_vctr (s : State) : (beginHold s).vctr = s.vctr := rfl
@[simp] theorem beginHold_desc (s : State) : (beginHold s).desc = s.desc := rfl
@[simp] theorem beginHold_nextList (s : State) : (beginHold s).nextList = s.nextList := rfl
@[simp] theorem beginHold_curList (s : State) : (beginHold s).curList = s.curList := rfl
@[simp] theorem beginHold_wordCnt (s : State) : (beginHold s).wordCnt = s.wordCnt := rfl
@[simp] theorem beginHold_fetchCnt (s : State) : (beginHold s).fetchCnt = s.fetchCnt := rfl
@[simp] theorem beginHold_armed (s : State) : (beginHold s).armed = s.armed := rfl
@[simp] theorem beginHold_fetcher (s : State) : (beginHold s).fetcher = s.fetcher := rfl
@[simp] theorem beginHold_fifo (s : State) : (beginHold s).fifo = s.fifo := rfl
@[simp] theorem beginHold_out (s : State) : (beginHold s).out = s.out := rfl

/-! ### endHold: the end of the hold (R232) -/

@[simp] theorem endHold_params (s : State) : (endHold s).params = s.params := rfl
@[simp] theorem endHold_mem (s : State) : (endHold s).mem = s.mem := rfl
@[simp] theorem endHold_host (s : State) : (endHold s).host = { s.host with holding := false } := rfl
@[simp] theorem endHold_agenda (s : State) : (endHold s).agenda = s.agenda := rfl
@[simp] theorem endHold_ctrl (s : State) : (endHold s).ctrl = s.ctrl := rfl
@[simp] theorem endHold_status (s : State) : (endHold s).status = s.status := rfl
@[simp] theorem endHold_arg0 (s : State) : (endHold s).arg0 = s.arg0 := rfl
@[simp] theorem endHold_arg1 (s : State) : (endHold s).arg1 = s.arg1 := rfl
@[simp] theorem endHold_res0 (s : State) : (endHold s).res0 = s.res0 := rfl
@[simp] theorem endHold_res1 (s : State) : (endHold s).res1 = s.res1 := rfl
@[simp] theorem endHold_timing (s : State) : (endHold s).timing = s.timing := rfl
@[simp] theorem endHold_txDst (s : State) : (endHold s).txDst = s.txDst := rfl
@[simp] theorem endHold_vstate (s : State) : (endHold s).vstate = s.vstate := rfl
@[simp] theorem endHold_vctr (s : State) : (endHold s).vctr = s.vctr := rfl
@[simp] theorem endHold_desc (s : State) : (endHold s).desc = s.desc := rfl
@[simp] theorem endHold_nextList (s : State) : (endHold s).nextList = s.nextList := rfl
@[simp] theorem endHold_curList (s : State) : (endHold s).curList = s.curList := rfl
@[simp] theorem endHold_wordCnt (s : State) : (endHold s).wordCnt = s.wordCnt := rfl
@[simp] theorem endHold_fetchCnt (s : State) : (endHold s).fetchCnt = s.fetchCnt := rfl
@[simp] theorem endHold_armed (s : State) : (endHold s).armed = s.armed := rfl
@[simp] theorem endHold_fetcher (s : State) : (endHold s).fetcher = s.fetcher := rfl
@[simp] theorem endHold_fifo (s : State) : (endHold s).fifo = s.fifo := rfl
@[simp] theorem endHold_out (s : State) : (endHold s).out = s.out := rfl

/-! ### setIrqEn: the IRQ_EN write (R220) -/

@[simp] theorem setIrqEn_params (en : Bool) (s : State) : (setIrqEn en s).params = s.params := rfl
@[simp] theorem setIrqEn_mem (en : Bool) (s : State) : (setIrqEn en s).mem = s.mem := rfl
@[simp] theorem setIrqEn_host (en : Bool) (s : State) : (setIrqEn en s).host = s.host := rfl
@[simp] theorem setIrqEn_agenda (en : Bool) (s : State) : (setIrqEn en s).agenda = s.agenda := rfl
@[simp] theorem setIrqEn_ctrl (en : Bool) (s : State) : (setIrqEn en s).ctrl = { s.ctrl with irqEn := en } := rfl
@[simp] theorem setIrqEn_status (en : Bool) (s : State) : (setIrqEn en s).status = s.status := rfl
@[simp] theorem setIrqEn_arg0 (en : Bool) (s : State) : (setIrqEn en s).arg0 = s.arg0 := rfl
@[simp] theorem setIrqEn_arg1 (en : Bool) (s : State) : (setIrqEn en s).arg1 = s.arg1 := rfl
@[simp] theorem setIrqEn_res0 (en : Bool) (s : State) : (setIrqEn en s).res0 = s.res0 := rfl
@[simp] theorem setIrqEn_res1 (en : Bool) (s : State) : (setIrqEn en s).res1 = s.res1 := rfl
@[simp] theorem setIrqEn_timing (en : Bool) (s : State) : (setIrqEn en s).timing = s.timing := rfl
@[simp] theorem setIrqEn_txDst (en : Bool) (s : State) : (setIrqEn en s).txDst = s.txDst := rfl
@[simp] theorem setIrqEn_vstate (en : Bool) (s : State) : (setIrqEn en s).vstate = s.vstate := rfl
@[simp] theorem setIrqEn_vctr (en : Bool) (s : State) : (setIrqEn en s).vctr = s.vctr := rfl
@[simp] theorem setIrqEn_desc (en : Bool) (s : State) : (setIrqEn en s).desc = s.desc := rfl
@[simp] theorem setIrqEn_nextList (en : Bool) (s : State) : (setIrqEn en s).nextList = s.nextList := rfl
@[simp] theorem setIrqEn_curList (en : Bool) (s : State) : (setIrqEn en s).curList = s.curList := rfl
@[simp] theorem setIrqEn_wordCnt (en : Bool) (s : State) : (setIrqEn en s).wordCnt = s.wordCnt := rfl
@[simp] theorem setIrqEn_fetchCnt (en : Bool) (s : State) : (setIrqEn en s).fetchCnt = s.fetchCnt := rfl
@[simp] theorem setIrqEn_armed (en : Bool) (s : State) : (setIrqEn en s).armed = s.armed := rfl
@[simp] theorem setIrqEn_fetcher (en : Bool) (s : State) : (setIrqEn en s).fetcher = s.fetcher := rfl
@[simp] theorem setIrqEn_fifo (en : Bool) (s : State) : (setIrqEn en s).fifo = s.fifo := rfl
@[simp] theorem setIrqEn_out (en : Bool) (s : State) : (setIrqEn en s).out = s.out := rfl

/-! ### startEngine: Start (R220) -/

@[simp] theorem startEngine_params (s : State) : (startEngine s).params = s.params := rfl
@[simp] theorem startEngine_mem (s : State) : (startEngine s).mem = s.mem := rfl
@[simp] theorem startEngine_host (s : State) : (startEngine s).host = s.host := rfl
@[simp] theorem startEngine_agenda (s : State) : (startEngine s).agenda = s.agenda := rfl
@[simp] theorem startEngine_ctrl (s : State) : (startEngine s).ctrl = { s.ctrl with run := true } := rfl
@[simp] theorem startEngine_status (s : State) : (startEngine s).status = flagMissed s.armed s.status := rfl
@[simp] theorem startEngine_arg0 (s : State) : (startEngine s).arg0 = s.arg0 := rfl
@[simp] theorem startEngine_arg1 (s : State) : (startEngine s).arg1 = s.arg1 := rfl
@[simp] theorem startEngine_res0 (s : State) : (startEngine s).res0 = s.res0 := rfl
@[simp] theorem startEngine_res1 (s : State) : (startEngine s).res1 = s.res1 := rfl
@[simp] theorem startEngine_timing (s : State) : (startEngine s).timing = s.timing := rfl
@[simp] theorem startEngine_txDst (s : State) : (startEngine s).txDst = s.txDst := rfl
@[simp] theorem startEngine_vstate (s : State) : (startEngine s).vstate = s.vstate := rfl
@[simp] theorem startEngine_vctr (s : State) : (startEngine s).vctr = s.vctr := rfl
@[simp] theorem startEngine_desc (s : State) : (startEngine s).desc = s.desc := rfl
@[simp] theorem startEngine_nextList (s : State) : (startEngine s).nextList = s.nextList := rfl
@[simp] theorem startEngine_curList (s : State) : (startEngine s).curList = s.nextList := rfl
@[simp] theorem startEngine_wordCnt (s : State) : (startEngine s).wordCnt = 0#32 := rfl
@[simp] theorem startEngine_fetchCnt (s : State) : (startEngine s).fetchCnt = 0#32 := rfl
@[simp] theorem startEngine_armed (s : State) : (startEngine s).armed = false := rfl
@[simp] theorem startEngine_fetcher (s : State) :
    (startEngine s).fetcher = ⟨loadFirstSlots s.desc s.nextList, .lane0⟩ := rfl
@[simp] theorem startEngine_fifo (s : State) : (startEngine s).fifo = ⟨[], [], []⟩ := rfl
@[simp] theorem startEngine_out (s : State) : (startEngine s).out = s.out := rfl

/-! ### lineCross: the line crossing (R226) -/

@[simp] theorem lineCross_params (s : State) : (lineCross s).params = s.params := rfl
@[simp] theorem lineCross_mem (s : State) : (lineCross s).mem = s.mem := rfl
@[simp] theorem lineCross_host (s : State) : (lineCross s).host = s.host := rfl
@[simp] theorem lineCross_agenda (s : State) : (lineCross s).agenda = s.agenda := rfl
@[simp] theorem lineCross_ctrl (s : State) : (lineCross s).ctrl = s.ctrl := rfl
@[simp] theorem lineCross_status (s : State) : (lineCross s).status = flagMissed s.armed s.status := rfl
@[simp] theorem lineCross_arg0 (s : State) : (lineCross s).arg0 = s.arg0 := rfl
@[simp] theorem lineCross_arg1 (s : State) : (lineCross s).arg1 = s.arg1 := rfl
@[simp] theorem lineCross_res0 (s : State) : (lineCross s).res0 = s.res0 := rfl
@[simp] theorem lineCross_res1 (s : State) : (lineCross s).res1 = s.res1 := rfl
@[simp] theorem lineCross_timing (s : State) : (lineCross s).timing = s.timing := rfl
@[simp] theorem lineCross_txDst (s : State) : (lineCross s).txDst = s.txDst := rfl
@[simp] theorem lineCross_vstate (s : State) : (lineCross s).vstate = s.vstate := rfl
@[simp] theorem lineCross_vctr (s : State) : (lineCross s).vctr = s.vctr := rfl
@[simp] theorem lineCross_desc (s : State) : (lineCross s).desc = s.desc := rfl
@[simp] theorem lineCross_nextList (s : State) : (lineCross s).nextList = s.nextList := rfl
@[simp] theorem lineCross_curList (s : State) : (lineCross s).curList = s.nextList := rfl
@[simp] theorem lineCross_wordCnt (s : State) : (lineCross s).wordCnt = s.wordCnt := rfl
@[simp] theorem lineCross_fetchCnt (s : State) : (lineCross s).fetchCnt = s.fetchCnt := rfl
@[simp] theorem lineCross_armed (s : State) : (lineCross s).armed = false := rfl
@[simp] theorem lineCross_fetcher (s : State) :
    (lineCross s).fetcher = { s.fetcher with lanes := loadFirstSlots s.desc s.nextList } := rfl
@[simp] theorem lineCross_fifo (s : State) : (lineCross s).fifo = s.fifo := rfl
@[simp] theorem lineCross_out (s : State) : (lineCross s).out = s.out := rfl

/-! ### countSlot: the FETCHCNT count (R225) -/

@[simp] theorem countSlot_params (s : State) : (countSlot s).params = s.params := rfl
@[simp] theorem countSlot_mem (s : State) : (countSlot s).mem = s.mem := rfl
@[simp] theorem countSlot_host (s : State) : (countSlot s).host = s.host := rfl
@[simp] theorem countSlot_agenda (s : State) : (countSlot s).agenda = s.agenda := rfl
@[simp] theorem countSlot_ctrl (s : State) : (countSlot s).ctrl = s.ctrl := rfl
@[simp] theorem countSlot_status (s : State) : (countSlot s).status = s.status := rfl
@[simp] theorem countSlot_arg0 (s : State) : (countSlot s).arg0 = s.arg0 := rfl
@[simp] theorem countSlot_arg1 (s : State) : (countSlot s).arg1 = s.arg1 := rfl
@[simp] theorem countSlot_res0 (s : State) : (countSlot s).res0 = s.res0 := rfl
@[simp] theorem countSlot_res1 (s : State) : (countSlot s).res1 = s.res1 := rfl
@[simp] theorem countSlot_timing (s : State) : (countSlot s).timing = s.timing := rfl
@[simp] theorem countSlot_txDst (s : State) : (countSlot s).txDst = s.txDst := rfl
@[simp] theorem countSlot_vstate (s : State) : (countSlot s).vstate = s.vstate := rfl
@[simp] theorem countSlot_vctr (s : State) : (countSlot s).vctr = s.vctr := rfl
@[simp] theorem countSlot_desc (s : State) : (countSlot s).desc = s.desc := rfl
@[simp] theorem countSlot_nextList (s : State) : (countSlot s).nextList = s.nextList := rfl
@[simp] theorem countSlot_curList (s : State) : (countSlot s).curList = s.curList := rfl
@[simp] theorem countSlot_wordCnt (s : State) : (countSlot s).wordCnt = s.wordCnt := rfl
@[simp] theorem countSlot_fetchCnt (s : State) : (countSlot s).fetchCnt = s.fetchCnt + 1#32 := rfl
@[simp] theorem countSlot_armed (s : State) : (countSlot s).armed = s.armed := rfl
@[simp] theorem countSlot_fetcher (s : State) : (countSlot s).fetcher = s.fetcher := rfl
@[simp] theorem countSlot_fifo (s : State) : (countSlot s).fifo = s.fifo := rfl
@[simp] theorem countSlot_out (s : State) : (countSlot s).out = s.out := rfl

/-! ### pushWord: the FETCHER's append (R224) -/

@[simp] theorem pushWord_params (l : Lane) (w : Word) (s : State) : (pushWord l w s).params = s.params := rfl
@[simp] theorem pushWord_mem (l : Lane) (w : Word) (s : State) : (pushWord l w s).mem = s.mem := rfl
@[simp] theorem pushWord_host (l : Lane) (w : Word) (s : State) : (pushWord l w s).host = s.host := rfl
@[simp] theorem pushWord_agenda (l : Lane) (w : Word) (s : State) : (pushWord l w s).agenda = s.agenda := rfl
@[simp] theorem pushWord_ctrl (l : Lane) (w : Word) (s : State) : (pushWord l w s).ctrl = s.ctrl := rfl
@[simp] theorem pushWord_status (l : Lane) (w : Word) (s : State) : (pushWord l w s).status = s.status := rfl
@[simp] theorem pushWord_arg0 (l : Lane) (w : Word) (s : State) : (pushWord l w s).arg0 = s.arg0 := rfl
@[simp] theorem pushWord_arg1 (l : Lane) (w : Word) (s : State) : (pushWord l w s).arg1 = s.arg1 := rfl
@[simp] theorem pushWord_res0 (l : Lane) (w : Word) (s : State) : (pushWord l w s).res0 = s.res0 := rfl
@[simp] theorem pushWord_res1 (l : Lane) (w : Word) (s : State) : (pushWord l w s).res1 = s.res1 := rfl
@[simp] theorem pushWord_timing (l : Lane) (w : Word) (s : State) : (pushWord l w s).timing = s.timing := rfl
@[simp] theorem pushWord_txDst (l : Lane) (w : Word) (s : State) : (pushWord l w s).txDst = s.txDst := rfl
@[simp] theorem pushWord_vstate (l : Lane) (w : Word) (s : State) : (pushWord l w s).vstate = s.vstate := rfl
@[simp] theorem pushWord_vctr (l : Lane) (w : Word) (s : State) : (pushWord l w s).vctr = s.vctr := rfl
@[simp] theorem pushWord_desc (l : Lane) (w : Word) (s : State) : (pushWord l w s).desc = s.desc := rfl
@[simp] theorem pushWord_nextList (l : Lane) (w : Word) (s : State) : (pushWord l w s).nextList = s.nextList := rfl
@[simp] theorem pushWord_curList (l : Lane) (w : Word) (s : State) : (pushWord l w s).curList = s.curList := rfl
@[simp] theorem pushWord_wordCnt (l : Lane) (w : Word) (s : State) : (pushWord l w s).wordCnt = s.wordCnt := rfl
@[simp] theorem pushWord_fetchCnt (l : Lane) (w : Word) (s : State) : (pushWord l w s).fetchCnt = s.fetchCnt := rfl
@[simp] theorem pushWord_armed (l : Lane) (w : Word) (s : State) : (pushWord l w s).armed = s.armed := rfl
@[simp] theorem pushWord_fetcher (l : Lane) (w : Word) (s : State) :
    (pushWord l w s).fetcher = ⟨s.fetcher.lanes.set l (advanceFetch (s.fetcher.lanes.get l)), nextLane l⟩ := rfl
@[simp] theorem pushWord_fifo (l : Lane) (w : Word) (s : State) :
    (pushWord l w s).fifo = s.fifo.set l (s.fifo.get l ++ [w]) := rfl
@[simp] theorem pushWord_out (l : Lane) (w : Word) (s : State) : (pushWord l w s).out = s.out := rfl

/-! ### dropHostOp: the HOST's program moving on -/

@[simp] theorem dropHostOp_params (s : State) : (dropHostOp s).params = s.params := rfl
@[simp] theorem dropHostOp_mem (s : State) : (dropHostOp s).mem = s.mem := rfl
@[simp] theorem dropHostOp_host (s : State) :
    (dropHostOp s).host = { s.host with program := s.host.program.tail } := rfl
@[simp] theorem dropHostOp_agenda (s : State) : (dropHostOp s).agenda = s.agenda := rfl
@[simp] theorem dropHostOp_ctrl (s : State) : (dropHostOp s).ctrl = s.ctrl := rfl
@[simp] theorem dropHostOp_status (s : State) : (dropHostOp s).status = s.status := rfl
@[simp] theorem dropHostOp_arg0 (s : State) : (dropHostOp s).arg0 = s.arg0 := rfl
@[simp] theorem dropHostOp_arg1 (s : State) : (dropHostOp s).arg1 = s.arg1 := rfl
@[simp] theorem dropHostOp_res0 (s : State) : (dropHostOp s).res0 = s.res0 := rfl
@[simp] theorem dropHostOp_res1 (s : State) : (dropHostOp s).res1 = s.res1 := rfl
@[simp] theorem dropHostOp_timing (s : State) : (dropHostOp s).timing = s.timing := rfl
@[simp] theorem dropHostOp_txDst (s : State) : (dropHostOp s).txDst = s.txDst := rfl
@[simp] theorem dropHostOp_vstate (s : State) : (dropHostOp s).vstate = s.vstate := rfl
@[simp] theorem dropHostOp_vctr (s : State) : (dropHostOp s).vctr = s.vctr := rfl
@[simp] theorem dropHostOp_desc (s : State) : (dropHostOp s).desc = s.desc := rfl
@[simp] theorem dropHostOp_nextList (s : State) : (dropHostOp s).nextList = s.nextList := rfl
@[simp] theorem dropHostOp_curList (s : State) : (dropHostOp s).curList = s.curList := rfl
@[simp] theorem dropHostOp_wordCnt (s : State) : (dropHostOp s).wordCnt = s.wordCnt := rfl
@[simp] theorem dropHostOp_fetchCnt (s : State) : (dropHostOp s).fetchCnt = s.fetchCnt := rfl
@[simp] theorem dropHostOp_armed (s : State) : (dropHostOp s).armed = s.armed := rfl
@[simp] theorem dropHostOp_fetcher (s : State) : (dropHostOp s).fetcher = s.fetcher := rfl
@[simp] theorem dropHostOp_fifo (s : State) : (dropHostOp s).fifo = s.fifo := rfl
@[simp] theorem dropHostOp_out (s : State) : (dropHostOp s).out = s.out := rfl

/-! ### dropAgenda: the agenda moving on -/

@[simp] theorem dropAgenda_params (s : State) : (dropAgenda s).params = s.params := rfl
@[simp] theorem dropAgenda_mem (s : State) : (dropAgenda s).mem = s.mem := rfl
@[simp] theorem dropAgenda_host (s : State) : (dropAgenda s).host = s.host := rfl
@[simp] theorem dropAgenda_agenda (s : State) : (dropAgenda s).agenda = s.agenda.tail := rfl
@[simp] theorem dropAgenda_ctrl (s : State) : (dropAgenda s).ctrl = s.ctrl := rfl
@[simp] theorem dropAgenda_status (s : State) : (dropAgenda s).status = s.status := rfl
@[simp] theorem dropAgenda_arg0 (s : State) : (dropAgenda s).arg0 = s.arg0 := rfl
@[simp] theorem dropAgenda_arg1 (s : State) : (dropAgenda s).arg1 = s.arg1 := rfl
@[simp] theorem dropAgenda_res0 (s : State) : (dropAgenda s).res0 = s.res0 := rfl
@[simp] theorem dropAgenda_res1 (s : State) : (dropAgenda s).res1 = s.res1 := rfl
@[simp] theorem dropAgenda_timing (s : State) : (dropAgenda s).timing = s.timing := rfl
@[simp] theorem dropAgenda_txDst (s : State) : (dropAgenda s).txDst = s.txDst := rfl
@[simp] theorem dropAgenda_vstate (s : State) : (dropAgenda s).vstate = s.vstate := rfl
@[simp] theorem dropAgenda_vctr (s : State) : (dropAgenda s).vctr = s.vctr := rfl
@[simp] theorem dropAgenda_desc (s : State) : (dropAgenda s).desc = s.desc := rfl
@[simp] theorem dropAgenda_nextList (s : State) : (dropAgenda s).nextList = s.nextList := rfl
@[simp] theorem dropAgenda_curList (s : State) : (dropAgenda s).curList = s.curList := rfl
@[simp] theorem dropAgenda_wordCnt (s : State) : (dropAgenda s).wordCnt = s.wordCnt := rfl
@[simp] theorem dropAgenda_fetchCnt (s : State) : (dropAgenda s).fetchCnt = s.fetchCnt := rfl
@[simp] theorem dropAgenda_armed (s : State) : (dropAgenda s).armed = s.armed := rfl
@[simp] theorem dropAgenda_fetcher (s : State) : (dropAgenda s).fetcher = s.fetcher := rfl
@[simp] theorem dropAgenda_fifo (s : State) : (dropAgenda s).fifo = s.fifo := rfl
@[simp] theorem dropAgenda_out (s : State) : (dropAgenda s).out = s.out := rfl

/-! ### busFault: BusFault (R264) -/

@[simp] theorem busFault_params (s : State) : (busFault s).params = s.params := rfl
@[simp] theorem busFault_mem (s : State) : (busFault s).mem = s.mem := rfl
@[simp] theorem busFault_host (s : State) : (busFault s).host = { s.host with stuck := true } := rfl
@[simp] theorem busFault_agenda (s : State) : (busFault s).agenda = s.agenda := rfl
@[simp] theorem busFault_ctrl (s : State) : (busFault s).ctrl = s.ctrl := rfl
@[simp] theorem busFault_status (s : State) : (busFault s).status = s.status := rfl
@[simp] theorem busFault_arg0 (s : State) : (busFault s).arg0 = s.arg0 := rfl
@[simp] theorem busFault_arg1 (s : State) : (busFault s).arg1 = s.arg1 := rfl
@[simp] theorem busFault_res0 (s : State) : (busFault s).res0 = s.res0 := rfl
@[simp] theorem busFault_res1 (s : State) : (busFault s).res1 = s.res1 := rfl
@[simp] theorem busFault_timing (s : State) : (busFault s).timing = s.timing := rfl
@[simp] theorem busFault_txDst (s : State) : (busFault s).txDst = s.txDst := rfl
@[simp] theorem busFault_vstate (s : State) : (busFault s).vstate = s.vstate := rfl
@[simp] theorem busFault_vctr (s : State) : (busFault s).vctr = s.vctr := rfl
@[simp] theorem busFault_desc (s : State) : (busFault s).desc = s.desc := rfl
@[simp] theorem busFault_nextList (s : State) : (busFault s).nextList = s.nextList := rfl
@[simp] theorem busFault_curList (s : State) : (busFault s).curList = s.curList := rfl
@[simp] theorem busFault_wordCnt (s : State) : (busFault s).wordCnt = s.wordCnt := rfl
@[simp] theorem busFault_fetchCnt (s : State) : (busFault s).fetchCnt = s.fetchCnt := rfl
@[simp] theorem busFault_armed (s : State) : (busFault s).armed = s.armed := rfl
@[simp] theorem busFault_fetcher (s : State) : (busFault s).fetcher = s.fetcher := rfl
@[simp] theorem busFault_fifo (s : State) : (busFault s).fifo = s.fifo := rfl
@[simp] theorem busFault_out (s : State) : (busFault s).out = s.out := rfl

/-! ### placeCommand: a placed command -/

@[simp] theorem placeCommand_params (w : Word) (s : State) : (placeCommand w s).params = s.params := rfl
@[simp] theorem placeCommand_mem (w : Word) (s : State) : (placeCommand w s).mem = s.mem := rfl
@[simp] theorem placeCommand_host (w : Word) (s : State) :
    (placeCommand w s).host = { s.host with program := .write .word 0x008#12 w :: s.host.program, holding := false, stuck := false } := rfl
@[simp] theorem placeCommand_agenda (w : Word) (s : State) : (placeCommand w s).agenda = .host :: s.agenda := rfl
@[simp] theorem placeCommand_ctrl (w : Word) (s : State) : (placeCommand w s).ctrl = s.ctrl := rfl
@[simp] theorem placeCommand_status (w : Word) (s : State) : (placeCommand w s).status = s.status := rfl
@[simp] theorem placeCommand_arg0 (w : Word) (s : State) : (placeCommand w s).arg0 = s.arg0 := rfl
@[simp] theorem placeCommand_arg1 (w : Word) (s : State) : (placeCommand w s).arg1 = s.arg1 := rfl
@[simp] theorem placeCommand_res0 (w : Word) (s : State) : (placeCommand w s).res0 = s.res0 := rfl
@[simp] theorem placeCommand_res1 (w : Word) (s : State) : (placeCommand w s).res1 = s.res1 := rfl
@[simp] theorem placeCommand_timing (w : Word) (s : State) : (placeCommand w s).timing = s.timing := rfl
@[simp] theorem placeCommand_txDst (w : Word) (s : State) : (placeCommand w s).txDst = s.txDst := rfl
@[simp] theorem placeCommand_vstate (w : Word) (s : State) : (placeCommand w s).vstate = s.vstate := rfl
@[simp] theorem placeCommand_vctr (w : Word) (s : State) : (placeCommand w s).vctr = s.vctr := rfl
@[simp] theorem placeCommand_desc (w : Word) (s : State) : (placeCommand w s).desc = s.desc := rfl
@[simp] theorem placeCommand_nextList (w : Word) (s : State) : (placeCommand w s).nextList = s.nextList := rfl
@[simp] theorem placeCommand_curList (w : Word) (s : State) : (placeCommand w s).curList = s.curList := rfl
@[simp] theorem placeCommand_wordCnt (w : Word) (s : State) : (placeCommand w s).wordCnt = s.wordCnt := rfl
@[simp] theorem placeCommand_fetchCnt (w : Word) (s : State) : (placeCommand w s).fetchCnt = s.fetchCnt := rfl
@[simp] theorem placeCommand_armed (w : Word) (s : State) : (placeCommand w s).armed = s.armed := rfl
@[simp] theorem placeCommand_fetcher (w : Word) (s : State) : (placeCommand w s).fetcher = s.fetcher := rfl
@[simp] theorem placeCommand_fifo (w : Word) (s : State) : (placeCommand w s).fifo = s.fifo := rfl
@[simp] theorem placeCommand_out (w : Word) (s : State) : (placeCommand w s).out = s.out := rfl

/-! ### The RESET step (R290) -/

@[simp] theorem resetBlock_params (s : State) : (resetBlock s).params = s.params := rfl
@[simp] theorem resetBlock_mem (s : State) : (resetBlock s).mem = s.mem := rfl
@[simp] theorem resetBlock_host (s : State) : (resetBlock s).host = { s.host with holding := false } := rfl
@[simp] theorem resetBlock_agenda (s : State) : (resetBlock s).agenda = s.agenda := rfl
@[simp] theorem resetBlock_ctrl (s : State) : (resetBlock s).ctrl = State.reset.ctrl := rfl
@[simp] theorem resetBlock_status (s : State) : (resetBlock s).status = State.reset.status := rfl
@[simp] theorem resetBlock_arg0 (s : State) : (resetBlock s).arg0 = State.reset.arg0 := rfl
@[simp] theorem resetBlock_arg1 (s : State) : (resetBlock s).arg1 = State.reset.arg1 := rfl
@[simp] theorem resetBlock_res0 (s : State) : (resetBlock s).res0 = State.reset.res0 := rfl
@[simp] theorem resetBlock_res1 (s : State) : (resetBlock s).res1 = State.reset.res1 := rfl
@[simp] theorem resetBlock_timing (s : State) : (resetBlock s).timing = State.reset.timing := rfl
@[simp] theorem resetBlock_txDst (s : State) : (resetBlock s).txDst = State.reset.txDst := rfl
@[simp] theorem resetBlock_vstate (s : State) : (resetBlock s).vstate = State.reset.vstate := rfl
@[simp] theorem resetBlock_vctr (s : State) : (resetBlock s).vctr = State.reset.vctr := rfl
@[simp] theorem resetBlock_desc (s : State) : (resetBlock s).desc = State.reset.desc := rfl
@[simp] theorem resetBlock_nextList (s : State) : (resetBlock s).nextList = State.reset.nextList := rfl
@[simp] theorem resetBlock_curList (s : State) : (resetBlock s).curList = State.reset.curList := rfl
@[simp] theorem resetBlock_wordCnt (s : State) : (resetBlock s).wordCnt = State.reset.wordCnt := rfl
@[simp] theorem resetBlock_fetchCnt (s : State) : (resetBlock s).fetchCnt = State.reset.fetchCnt := rfl
@[simp] theorem resetBlock_armed (s : State) : (resetBlock s).armed = State.reset.armed := rfl
@[simp] theorem resetBlock_fetcher (s : State) : (resetBlock s).fetcher = State.reset.fetcher := rfl
@[simp] theorem resetBlock_fifo (s : State) : (resetBlock s).fifo = State.reset.fifo := rfl
@[simp] theorem resetBlock_out (s : State) : (resetBlock s).out = State.reset.out := rfl

/-! ### Indexed reads after writes -/

@[simp] theorem Lanes.get_set_self {α : Type} (v : Lanes α) (l : Lane) (x : α) : (v.set l x).get l = x := by
  cases l <;> rfl

theorem Lanes.get_set_ne {α : Type} (v : Lanes α) {l k : Lane} (x : α) (h : k ≠ l) :
    (v.set l x).get k = v.get k := by
  cases l <;> cases k <;> first | rfl | exact absurd rfl h

/-! ### The flag updates, field by field -/

@[simp] theorem statusAfterCmdError_lineIrq (c : CmdCause) (st : Status) :
    (statusAfterCmdError c st).lineIrq = st.lineIrq := rfl
@[simp] theorem statusAfterCmdError_missed (c : CmdCause) (st : Status) :
    (statusAfterCmdError c st).missed = st.missed := rfl
@[simp] theorem statusAfterCmdError_irqOvr (c : CmdCause) (st : Status) :
    (statusAfterCmdError c st).irqOvr = st.irqOvr := rfl
@[simp] theorem statusAfterCmdError_unbal (c : CmdCause) (st : Status) :
    (statusAfterCmdError c st).unbal = st.unbal := rfl
@[simp] theorem statusAfterCmdError_cmdErr (c : CmdCause) (st : Status) :
    (statusAfterCmdError c st).cmdErr = true := rfl
@[simp] theorem statusAfterCmdError_txFault (c : CmdCause) (st : Status) :
    (statusAfterCmdError c st).txFault = st.txFault := rfl
@[simp] theorem statusAfterCmdError_built (c : CmdCause) (st : Status) :
    (statusAfterCmdError c st).built = st.built := rfl
@[simp] theorem statusAfterCmdError_srcValid (c : CmdCause) (st : Status) :
    (statusAfterCmdError c st).srcValid = st.srcValid := rfl
@[simp] theorem statusAfterCmdError_errCause (c : CmdCause) (st : Status) :
    (statusAfterCmdError c st).errCause = if st.cmdErr then st.errCause else cmdCauseCode c := rfl
@[simp] theorem statusAfterCmdError_txFaultCause (c : CmdCause) (st : Status) :
    (statusAfterCmdError c st).txFaultCause = st.txFaultCause := rfl

@[simp] theorem flagUnbal_lineIrq (r : Int) (st : Status) : (flagUnbal r st).lineIrq = st.lineIrq := rfl
@[simp] theorem flagUnbal_missed (r : Int) (st : Status) : (flagUnbal r st).missed = st.missed := rfl
@[simp] theorem flagUnbal_irqOvr (r : Int) (st : Status) : (flagUnbal r st).irqOvr = st.irqOvr := rfl
@[simp] theorem flagUnbal_unbal (r : Int) (st : Status) : (flagUnbal r st).unbal = (st.unbal || decide (r ≠ 0)) := rfl
@[simp] theorem flagUnbal_cmdErr (r : Int) (st : Status) : (flagUnbal r st).cmdErr = st.cmdErr := rfl
@[simp] theorem flagUnbal_txFault (r : Int) (st : Status) : (flagUnbal r st).txFault = st.txFault := rfl
@[simp] theorem flagUnbal_built (r : Int) (st : Status) : (flagUnbal r st).built = st.built := rfl
@[simp] theorem flagUnbal_srcValid (r : Int) (st : Status) : (flagUnbal r st).srcValid = st.srcValid := rfl
@[simp] theorem flagUnbal_errCause (r : Int) (st : Status) : (flagUnbal r st).errCause = st.errCause := rfl
@[simp] theorem flagUnbal_txFaultCause (r : Int) (st : Status) :
    (flagUnbal r st).txFaultCause = st.txFaultCause := rfl

@[simp] theorem flagLineIrq_lineIrq (st : Status) : (flagLineIrq st).lineIrq = true := rfl
@[simp] theorem flagLineIrq_missed (st : Status) : (flagLineIrq st).missed = st.missed := rfl
@[simp] theorem flagLineIrq_irqOvr (st : Status) : (flagLineIrq st).irqOvr = (st.irqOvr || st.lineIrq) := rfl
@[simp] theorem flagLineIrq_unbal (st : Status) : (flagLineIrq st).unbal = st.unbal := rfl
@[simp] theorem flagLineIrq_cmdErr (st : Status) : (flagLineIrq st).cmdErr = st.cmdErr := rfl
@[simp] theorem flagLineIrq_txFault (st : Status) : (flagLineIrq st).txFault = st.txFault := rfl
@[simp] theorem flagLineIrq_built (st : Status) : (flagLineIrq st).built = st.built := rfl
@[simp] theorem flagLineIrq_srcValid (st : Status) : (flagLineIrq st).srcValid = st.srcValid := rfl
@[simp] theorem flagLineIrq_errCause (st : Status) : (flagLineIrq st).errCause = st.errCause := rfl
@[simp] theorem flagLineIrq_txFaultCause (st : Status) : (flagLineIrq st).txFaultCause = st.txFaultCause := rfl

@[simp] theorem flagMissed_lineIrq (armed : Bool) (st : Status) : (flagMissed armed st).lineIrq = st.lineIrq := rfl
@[simp] theorem flagMissed_missed (armed : Bool) (st : Status) :
    (flagMissed armed st).missed = (st.missed || !armed) := rfl
@[simp] theorem flagMissed_irqOvr (armed : Bool) (st : Status) : (flagMissed armed st).irqOvr = st.irqOvr := rfl
@[simp] theorem flagMissed_unbal (armed : Bool) (st : Status) : (flagMissed armed st).unbal = st.unbal := rfl
@[simp] theorem flagMissed_cmdErr (armed : Bool) (st : Status) : (flagMissed armed st).cmdErr = st.cmdErr := rfl
@[simp] theorem flagMissed_txFault (armed : Bool) (st : Status) : (flagMissed armed st).txFault = st.txFault := rfl
@[simp] theorem flagMissed_built (armed : Bool) (st : Status) : (flagMissed armed st).built = st.built := rfl
@[simp] theorem flagMissed_srcValid (armed : Bool) (st : Status) : (flagMissed armed st).srcValid = st.srcValid := rfl
@[simp] theorem flagMissed_errCause (armed : Bool) (st : Status) : (flagMissed armed st).errCause = st.errCause := rfl
@[simp] theorem flagMissed_txFaultCause (armed : Bool) (st : Status) :
    (flagMissed armed st).txFaultCause = st.txFaultCause := rfl

@[simp] theorem flagBuilt_lineIrq (st : Status) : (flagBuilt st).lineIrq = st.lineIrq := rfl
@[simp] theorem flagBuilt_missed (st : Status) : (flagBuilt st).missed = st.missed := rfl
@[simp] theorem flagBuilt_irqOvr (st : Status) : (flagBuilt st).irqOvr = st.irqOvr := rfl
@[simp] theorem flagBuilt_unbal (st : Status) : (flagBuilt st).unbal = st.unbal := rfl
@[simp] theorem flagBuilt_cmdErr (st : Status) : (flagBuilt st).cmdErr = st.cmdErr := rfl
@[simp] theorem flagBuilt_txFault (st : Status) : (flagBuilt st).txFault = st.txFault := rfl
@[simp] theorem flagBuilt_built (st : Status) : (flagBuilt st).built = true := rfl
@[simp] theorem flagBuilt_srcValid (st : Status) : (flagBuilt st).srcValid = false := rfl
@[simp] theorem flagBuilt_errCause (st : Status) : (flagBuilt st).errCause = st.errCause := rfl
@[simp] theorem flagBuilt_txFaultCause (st : Status) : (flagBuilt st).txFaultCause = st.txFaultCause := rfl

@[simp] theorem flagUnbuilt_lineIrq (st : Status) : (flagUnbuilt st).lineIrq = st.lineIrq := rfl
@[simp] theorem flagUnbuilt_missed (st : Status) : (flagUnbuilt st).missed = st.missed := rfl
@[simp] theorem flagUnbuilt_irqOvr (st : Status) : (flagUnbuilt st).irqOvr = st.irqOvr := rfl
@[simp] theorem flagUnbuilt_unbal (st : Status) : (flagUnbuilt st).unbal = st.unbal := rfl
@[simp] theorem flagUnbuilt_cmdErr (st : Status) : (flagUnbuilt st).cmdErr = st.cmdErr := rfl
@[simp] theorem flagUnbuilt_txFault (st : Status) : (flagUnbuilt st).txFault = st.txFault := rfl
@[simp] theorem flagUnbuilt_built (st : Status) : (flagUnbuilt st).built = false := rfl
@[simp] theorem flagUnbuilt_srcValid (st : Status) : (flagUnbuilt st).srcValid = false := rfl
@[simp] theorem flagUnbuilt_errCause (st : Status) : (flagUnbuilt st).errCause = st.errCause := rfl
@[simp] theorem flagUnbuilt_txFaultCause (st : Status) : (flagUnbuilt st).txFaultCause = st.txFaultCause := rfl

@[simp] theorem statusAfterWrite_lineIrq (v : Word) (st : Status) :
    (statusAfterWrite v st).lineIrq = (st.lineIrq && !v.getLsbD 0) := rfl
@[simp] theorem statusAfterWrite_missed (v : Word) (st : Status) :
    (statusAfterWrite v st).missed = (st.missed && !v.getLsbD 1) := rfl
@[simp] theorem statusAfterWrite_irqOvr (v : Word) (st : Status) :
    (statusAfterWrite v st).irqOvr = (st.irqOvr && !v.getLsbD 2) := rfl
@[simp] theorem statusAfterWrite_unbal (v : Word) (st : Status) :
    (statusAfterWrite v st).unbal = (st.unbal && !v.getLsbD 3) := rfl
@[simp] theorem statusAfterWrite_cmdErr (v : Word) (st : Status) :
    (statusAfterWrite v st).cmdErr = (st.cmdErr && !v.getLsbD 4) := rfl
@[simp] theorem statusAfterWrite_txFault (v : Word) (st : Status) :
    (statusAfterWrite v st).txFault = st.txFault := rfl
@[simp] theorem statusAfterWrite_built (v : Word) (st : Status) : (statusAfterWrite v st).built = st.built := rfl
@[simp] theorem statusAfterWrite_srcValid (v : Word) (st : Status) :
    (statusAfterWrite v st).srcValid = st.srcValid := rfl
@[simp] theorem statusAfterWrite_errCause (v : Word) (st : Status) :
    (statusAfterWrite v st).errCause = if v.getLsbD 4 then 0x00#8 else st.errCause := rfl
@[simp] theorem statusAfterWrite_txFaultCause (v : Word) (st : Status) :
    (statusAfterWrite v st).txFaultCause = st.txFaultCause := rfl

end Sys2Proof.Machine
end

