-- ==== Sys2Proof/Laws/Chain.lean ====
section
/-! SUPPORT. The descriptor lists: what the patch leaves alone, and what every list DMA_SETUP builds looks like. -/

namespace Sys2Proof.Machine

/-! ### Indexed reads after writes -/

theorem loadFirstSlots_get (d : DescRam) (list : LineState) (l : Lane) :
    (loadFirstSlots d list).get l = snapshot d list l .slot0 := by
  cases l <;> rfl

/-! ### The descriptor patch -/

/-- The patch replaces the SRC words of the Active list's active-region slots and nothing else (R200). -/
theorem descAt_patchDesc (d : DescRam) (a0 a1 a2 : Word) (list : LineState) (l : Lane) (b : Slot) :
    descAt (patchDesc d a0 a1 a2) list l b =
      if list = .active ∧ b = activeSlot l then
        (descAt d list l b).withSrc ((⟨a0, a1, a2⟩ : Lanes Word).get l)
      else descAt d list l b := by
  cases list <;> cases l <;> cases b <;> rfl

theorem activeSrc_patchDesc (d : DescRam) (a0 a1 a2 : Word) (l : Lane) :
    activeSrc (patchDesc d a0 a1 a2) l = (⟨a0, a1, a2⟩ : Lanes Word).get l := by
  cases l <;> rfl

theorem patchDesc_patchDesc (d : DescRam) (a0 a1 a2 b0 b1 b2 : Word) :
    patchDesc (patchDesc d a0 a1 a2) b0 b1 b2 = patchDesc d b0 b1 b2 := rfl

theorem descAt_patchDesc_count (d : DescRam) (a0 a1 a2 : Word) (list : LineState) (l : Lane) (b : Slot) :
    (descAt (patchDesc d a0 a1 a2) list l b).count = (descAt d list l b).count := by
  rw [descAt_patchDesc]; split <;> rfl

theorem descAt_patchDesc_dctrl (d : DescRam) (a0 a1 a2 : Word) (list : LineState) (l : Lane) (b : Slot) :
    (descAt (patchDesc d a0 a1 a2) list l b).dctrl = (descAt d list l b).dctrl := by
  rw [descAt_patchDesc]; split <;> rfl

theorem slotWords_patchDesc (d : DescRam) (a0 a1 a2 : Word) (list : LineState) (l : Lane) (bs : List Slot) :
    slotWords (patchDesc d a0 a1 a2) list l bs = slotWords d list l bs := by
  simp only [slotWords, descAt_patchDesc_count]

/-! ### The symbol addresses (R191) -/

theorem pBase_toNat (p : Params) : (pBase p).toNat = p.basePage.toNat * 4096 := by
  rw [pBase, BitVec.toNat_append, Nat.shiftLeft_eq]
  simp

theorem symAddr_toNat (p : Params) (i : BitVec 2) :
    (symAddr p i).toNat = (pBase p).toNat + 0x100 + 4 * i.toNat := by
  have hb := pBase_toNat p
  have h1 := p.basePage.isLt
  have h2 := i.isLt
  rw [symAddr, BitVec.toNat_add, BitVec.toNat_add, BitVec.toNat_mul, BitVec.toNat_setWidth, hb]
  simp only [BitVec.toNat_ofNat]
  omega

theorem symAddr_aligned (p : Params) (i : BitVec 2) : wordAligned (symAddr p i) = true := by
  have hb := pBase_toNat p
  have := symAddr_toNat p i
  simp [wordAligned]
  omega

/-! ### The built lists (R195 to R199) -/

theorem widthValid_iff (w : Half) : widthValid w = true ↔ 2 ≤ w.toNat ∧ w.toNat % 2 = 0 := by
  simp [widthValid]

theorem hValid_iff (t : Timing) : hValid t = true ↔
    (2 ≤ t.hFp.toNat ∧ t.hFp.toNat % 2 = 0) ∧ (2 ≤ t.hSync.toNat ∧ t.hSync.toNat % 2 = 0) ∧
      (2 ≤ t.hBp.toNat ∧ t.hBp.toNat % 2 = 0) ∧ (2 ≤ t.hActive.toNat ∧ t.hActive.toNat % 2 = 0) := by
  simp [hValid, widthValid_iff, and_assoc]

theorem widthWords_toNat (w : Half) : (widthWords w).toNat = w.toNat / 2 := by
  have := w.isLt
  simp [widthWords]
  omega

theorem inactiveCount_toNat (t : Timing) :
    (BitVec.ofNat 32 (inactiveCount t)).toNat = (t.hFp.toNat + t.hSync.toNat + t.hBp.toNat) / 2 := by
  have h1 := t.hFp.isLt
  have h2 := t.hSync.isLt
  have h3 := t.hBp.isLt
  simp [inactiveCount]
  omega

/-- What every list of a built chain looks like, whatever the patched SRC words. -/
structure BuiltDesc (d : DescRam) (t : Timing) : Prop where
  count_pos : ∀ list l b, slotUsed l b = true → 1 ≤ (descAt d list l b).count.toNat
  last : ∀ list l b, slotUsed l b = true →
    dctrlLast (descAt d list l b).dctrl = (slotsAfter l b).isEmpty
  irq : ∀ list l b, slotUsed l b = true →
    dctrlIrq (descAt d list l b).dctrl = decide (l = .lane0 ∧ b = .slot2)
  incr : ∀ list l b, slotUsed l b = true →
    dctrlIncr (descAt d list l b).dctrl = decide (list = .active ∧ b = activeSlot l)
  words : ∀ list l,
    (descAt d list l .slot0).count.toNat + slotWords d list l (slotsAfter l .slot0) = lineWords t
  active_words : ∀ list l, (descAt d list l (activeSlot l)).count.toNat = t.hActive.toNat / 2

theorem buildDesc_built (p : Params) (t : Timing) (dst : Lanes Word) (h : hValid t = true) :
    BuiltDesc (buildDesc p t dst) t := by
  obtain ⟨⟨h1, h1e⟩, ⟨h2, h2e⟩, ⟨h3, h3e⟩, ⟨h4, h4e⟩⟩ := (hValid_iff t).mp h
  constructor
  · intro list l b hb
    have hi := inactiveCount_toNat t
    have a1 := widthWords_toNat t.hFp
    have a2 := widthWords_toNat t.hSync
    have a3 := widthWords_toNat t.hBp
    have a4 := widthWords_toNat t.hActive
    cases list <;> cases l <;> cases b <;> first | (cases hb; done) | skip
    all_goals
      simp only [descAt, Lists.get, Lanes.get, Slots.get, buildDesc, buildList, buildLane0, buildLane12]
      omega
  · intro list l b hb
    cases list <;> cases l <;> cases b <;> first | (cases hb; done) | (simp only [descAt, Lists.get, Lanes.get, Slots.get, buildDesc, buildList, buildLane0, buildLane12]; decide)
  · intro list l b hb
    cases list <;> cases l <;> cases b <;> first | (cases hb; done) | (simp only [descAt, Lists.get, Lanes.get, Slots.get, buildDesc, buildList, buildLane0, buildLane12]; decide)
  · intro list l b hb
    cases list <;> cases l <;> cases b <;> first | (cases hb; done) | (simp only [descAt, Lists.get, Lanes.get, Slots.get, buildDesc, buildList, buildLane0, buildLane12]; decide)
  · intro list l
    have hi := inactiveCount_toNat t
    have a1 := widthWords_toNat t.hFp
    have a2 := widthWords_toNat t.hSync
    have a3 := widthWords_toNat t.hBp
    have a4 := widthWords_toNat t.hActive
    cases list <;> cases l
    all_goals
      simp only [descAt, Lists.get, Lanes.get, Slots.get, buildDesc, buildList, buildLane0, buildLane12,
        slotWords, slotsAfter, lineWords, List.map, List.sum_cons, List.sum_nil]
      omega
  · intro list l
    have a4 := widthWords_toNat t.hActive
    cases list <;> cases l <;> exact a4

theorem BuiltDesc.patch {d : DescRam} {t : Timing} (h : BuiltDesc d t) (a0 a1 a2 : Word) :
    BuiltDesc (patchDesc d a0 a1 a2) t := by
  constructor
  · intro list l b hb; rw [descAt_patchDesc_count]; exact h.count_pos list l b hb
  · intro list l b hb; rw [descAt_patchDesc_dctrl]; exact h.last list l b hb
  · intro list l b hb; rw [descAt_patchDesc_dctrl]; exact h.irq list l b hb
  · intro list l b hb; rw [descAt_patchDesc_dctrl]; exact h.incr list l b hb
  · intro list l; rw [descAt_patchDesc_count, slotWords_patchDesc]; exact h.words list l
  · intro list l; rw [descAt_patchDesc_count]; exact h.active_words list l

/-- The SRC words of a built chain outside the active-region slots of the Active list are aligned (R191). -/
theorem buildDesc_src_aligned (p : Params) (t : Timing) (dst : Lanes Word) (list : LineState) (l : Lane)
    (b : Slot) : wordAligned (descAt (buildDesc p t dst) list l b).src = true := by
  cases list <;> cases l <;> cases b <;> first | exact symAddr_aligned p _ | rfl

end Sys2Proof.Machine
end

