-- ==== Sys2Proof/Laws/Commands.lean ====
section
/-! SUPPORT. What each command can do, once for all later proofs: if it answers a next state, it is one of these. -/

namespace Sys2Proof.Machine

/-! ### Commands -/

theorem execDmaSetup_cases {s t : State} (h : execDmaSetup s = .next t) :
    (s.ctrl.run = true ∧ t = cmdError .running s) ∨
      (s.ctrl.run = false ∧ (vValid s.timing && hValid s.timing) = false ∧ t = cmdError .badConfig s) ∨
      (s.ctrl.run = false ∧ vValid s.timing = true ∧ hValid s.timing = true ∧
        t = { s with desc := buildDesc s.params s.timing s.txDst, status := flagBuilt s.status }) := by
  unfold execDmaSetup at h
  split at h
  · next hr => cases h; exact .inl ⟨hr, rfl⟩
  · next hr =>
    split at h
    · next hv => cases h; exact .inr (.inl ⟨by simpa using hr, hv, rfl⟩)
    · next hv =>
      cases h
      rw [Bool.not_eq_false, Bool.and_eq_true] at hv
      exact .inr (.inr ⟨by simpa using hr, hv.1, hv.2, rfl⟩)

theorem execDmaUpdate_cases {s t : State} (h : execDmaUpdate s = .next t) :
    (∃ c, t = cmdError c s) ∨
      (s.status.built = true ∧ wordAligned s.arg0 = true ∧ t = patchActive s.arg0 s.arg1 s) := by
  unfold execDmaUpdate at h
  split at h
  · cases h; exact .inl ⟨_, rfl⟩
  · split at h
    · cases h; exact .inl ⟨_, rfl⟩
    · cases h; exact .inr ⟨by simp_all, by simp_all [opBufferPtr], rfl⟩

theorem execTxSubmit_cases {list : LineState} {s t : State} (h : execTxSubmit list s = .next t) :
    (∃ c, t = cmdError c s) ∨
      (s.status.built = true ∧ (list = .active → s.status.srcValid = true) ∧ t = submitList list s) := by
  unfold execTxSubmit at h
  split at h
  · cases h; exact .inl ⟨_, rfl⟩
  · split at h
    · cases h; exact .inl ⟨_, rfl⟩
    · cases h; exact .inr ⟨by simp_all, by simp_all, rfl⟩

theorem execTxSubmitActive_cases {s t : State} (h : execTxSubmitActive s = .next t) :
    (∃ c, t = cmdError c s) ∨
      (s.status.built = true ∧ wordAligned s.arg0 = true ∧ s.arg1.toNat = s.timing.hActive.toNat / 2 ∧
        t = submitList .active (patchActive s.arg0 s.arg1 s)) := by
  unfold execTxSubmitActive at h
  split at h
  · cases h; exact .inl ⟨_, rfl⟩
  · split at h
    · cases h; exact .inl ⟨_, rfl⟩
    · split at h
      · cases h; exact .inl ⟨_, rfl⟩
      · cases h; exact .inr ⟨by simp_all, by simp_all [opBufferPtr], by simp_all [opWordCount], rfl⟩

theorem execTxWait_cases {s t : State} (h : execTxWait s = .next t) :
    (t = cmdError .notRunning s) ∨
      (s.ctrl.run = true ∧ s.status.txFault = false ∧
        ((s.arg0.toNat ≤ s.fetchCnt.toNat ∧ t = s) ∨ (s.fetchCnt.toNat < s.arg0.toNat ∧ t = beginHold s))) := by
  unfold execTxWait at h
  split at h
  · cases h; exact .inl rfl
  · next hn =>
    split at h
    · next hc =>
      cases h
      exact .inr ⟨by simp_all, by simp_all, .inl ⟨of_decide_eq_true hc, rfl⟩⟩
    · next hc =>
      cases h
      exact .inr ⟨by simp_all, by simp_all, .inr ⟨not_le.mp fun hle => hc (decide_eq_true hle), rfl⟩⟩

theorem execTimAdvance_cases {s t : State} (h : execTimAdvance s = .next t) :
    (vValid s.timing = false ∧ t = cmdError .badConfig s) ∨
      (vValid s.timing = true ∧
        ((lineCount s.timing s.vstate ≤ s.vctr.toNat + 1 ∧
            t = { s with vstate := nextLineState s.vstate, vctr := 0#32 }) ∨
          (s.vctr.toNat + 1 < lineCount s.timing s.vstate ∧ t = { s with vctr := s.vctr + 1#32 }))) := by
  unfold execTimAdvance at h
  split at h
  · next hv => cases h; exact .inl ⟨hv, rfl⟩
  · next hv =>
    split at h
    · next hc => cases h; exact .inr ⟨by simpa using hv, .inl ⟨hc, rfl⟩⟩
    · next hc => cases h; exact .inr ⟨by simpa using hv, .inr ⟨by omega, rfl⟩⟩

theorem execTimIndex_cases {s t : State} (h : execTimIndex s = .next t) :
    (vValid s.timing = false ∧ t = cmdError .badConfig s) ∨
      (vValid s.timing = true ∧
        ((0 ≤ activeRow s ∧ activeRow s < (s.timing.vActive.toNat : Int) ∧
            t = setResults (u32 (activeRow s)) 1#32 s) ∨
          (¬ (0 ≤ activeRow s ∧ activeRow s < (s.timing.vActive.toNat : Int)) ∧
            t = setResults 0#32 0#32 s))) := by
  unfold execTimIndex at h
  split at h
  · next hv => cases h; exact .inl ⟨hv, rfl⟩
  · next hv =>
    split at h
    · next hc => cases h; exact .inr ⟨by simpa using hv, .inl ⟨hc.1, hc.2, rfl⟩⟩
    · next hc => cases h; exact .inr ⟨by simpa using hv, .inr ⟨hc, rfl⟩⟩

/-- Everything a command can do: raise CmdError, or have its own effect. -/
theorem exec_cases {i : Instr} {s t : State} (h : exec i s = .next t) :
    (∃ c, t = cmdError c s) ∨ t = s ∨
      ((∃ r0 r1, t = setResults r0 r1 s) ∧
        ((∃ b, i = .enc b) ∨ (∃ b, i = .encApprox b) ∨ (∃ c, i = .ctrlSym c) ∨ i = .timIndex)) ∨
      (∃ b0 b1, i = .encPair b0 b1 ∧
        t = { setResults (encodePairWord b0 b1) (u32 (encodePairResidual b0 b1)) s with
              status := flagUnbal (encodePairResidual b0 b1) s.status }) ∨
      ((i = .timReset ∨ i = .timAdvance) ∧ t = { s with vstate := t.vstate, vctr := t.vctr }) ∨
      (i = .dmaSetup ∧ s.ctrl.run = false ∧ vValid s.timing = true ∧ hValid s.timing = true ∧
        t = { s with desc := buildDesc s.params s.timing s.txDst, status := flagBuilt s.status }) ∨
      (i = .dmaUpdate ∧ s.status.built = true ∧ wordAligned s.arg0 = true ∧
        t = patchActive s.arg0 s.arg1 s) ∨
      (∃ list, i = .txSubmit list ∧ s.status.built = true ∧
        (list = .active → s.status.srcValid = true) ∧ t = submitList list s) ∨
      (i = .txSubmitActive ∧ s.status.built = true ∧ wordAligned s.arg0 = true ∧
        t = submitList .active (patchActive s.arg0 s.arg1 s)) ∨
      (i = .txWait ∧ s.ctrl.run = true ∧ s.status.txFault = false ∧ t = beginHold s) := by
  cases i with
  | nop => cases h; exact .inr (.inl rfl)
  | enc b => cases h; exact .inr (.inr (.inl ⟨⟨_, _, rfl⟩, .inl ⟨b, rfl⟩⟩))
  | encPair b0 b1 => cases h; exact .inr (.inr (.inr (.inl ⟨b0, b1, rfl, rfl⟩)))
  | encApprox b => cases h; exact .inr (.inr (.inl ⟨⟨_, _, rfl⟩, .inr (.inl ⟨b, rfl⟩)⟩))
  | ctrlSym c => cases h; exact .inr (.inr (.inl ⟨⟨_, _, rfl⟩, .inr (.inr (.inl ⟨c, rfl⟩))⟩))
  | timReset => cases h; exact .inr (.inr (.inr (.inr (.inl ⟨.inl rfl, rfl⟩))))
  | timAdvance =>
    rcases execTimAdvance_cases h with ⟨-, rfl⟩ | ⟨-, ⟨-, rfl⟩ | ⟨-, rfl⟩⟩
    · exact .inl ⟨_, rfl⟩
    · exact .inr (.inr (.inr (.inr (.inl ⟨.inr rfl, rfl⟩))))
    · exact .inr (.inr (.inr (.inr (.inl ⟨.inr rfl, rfl⟩))))
  | timIndex =>
    rcases execTimIndex_cases h with ⟨-, rfl⟩ | ⟨-, ⟨-, -, rfl⟩ | ⟨-, rfl⟩⟩
    · exact .inl ⟨_, rfl⟩
    · exact .inr (.inr (.inl ⟨⟨_, _, rfl⟩, .inr (.inr (.inr rfl))⟩))
    · exact .inr (.inr (.inl ⟨⟨_, _, rfl⟩, .inr (.inr (.inr rfl))⟩))
  | dmaSetup =>
    rcases execDmaSetup_cases h with ⟨-, rfl⟩ | ⟨-, -, rfl⟩ | ⟨h1, h2, h3, rfl⟩
    · exact .inl ⟨_, rfl⟩
    · exact .inl ⟨_, rfl⟩
    · exact .inr (.inr (.inr (.inr (.inr (.inl ⟨rfl, h1, h2, h3, rfl⟩)))))
  | dmaUpdate =>
    rcases execDmaUpdate_cases h with ⟨c, rfl⟩ | ⟨h1, h2, rfl⟩
    · exact .inl ⟨_, rfl⟩
    · exact .inr (.inr (.inr (.inr (.inr (.inr (.inl ⟨rfl, h1, h2, rfl⟩))))))
  | txSubmit list =>
    rcases execTxSubmit_cases h with ⟨c, rfl⟩ | ⟨h1, h2, rfl⟩
    · exact .inl ⟨_, rfl⟩
    · exact .inr (.inr (.inr (.inr (.inr (.inr (.inr (.inl ⟨list, rfl, h1, h2, rfl⟩)))))))
  | txSubmitActive =>
    rcases execTxSubmitActive_cases h with ⟨c, rfl⟩ | ⟨h1, h2, -, rfl⟩
    · exact .inl ⟨_, rfl⟩
    · exact .inr (.inr (.inr (.inr (.inr (.inr (.inr (.inr (.inl ⟨rfl, h1, h2, rfl⟩))))))))
  | txWait =>
    rcases execTxWait_cases h with rfl | ⟨h1, h2, ⟨-, rfl⟩ | ⟨-, rfl⟩⟩
    · exact .inl ⟨_, rfl⟩
    · exact .inr (.inl rfl)
    · exact .inr (.inr (.inr (.inr (.inr (.inr (.inr (.inr (.inr ⟨rfl, h1, h2, rfl⟩))))))))

/-- Every command answers a next state, in every state. -/
theorem exec_completes (i : Instr) (s : State) : ∃ t, exec i s = .next t := by
  cases i <;> simp only [exec] <;>
    first
    | exact ⟨_, rfl⟩
    | (simp only [execTimAdvance, execTimIndex, execDmaSetup, execDmaUpdate, execTxSubmit,
        execTxSubmitActive, execTxWait]; split_ifs <;> exact ⟨_, rfl⟩)

end Sys2Proof.Machine
end

