-- ==== Sys2Proof/Laws/Encoder.lean ====
section
/-! SUPPORT. The encoder: the bits of a symbol, and the 1-count of a symbol. -/

namespace Sys2Proof.Machine

/-- The bits of stage 1 are the bits of q_m (R133). -/
theorem qmByte_bit (D : Byte) {i : Nat} (h : i < 8) : (qmByte D).getLsbD i = qmBit (chooseXnor D) D i := by
  unfold qmByte
  dsimp only
  generalize qmBit (chooseXnor D) D = q
  refine (BitVec.getLsbD_ofBoolListLE (bs := [q 0, q 1, q 2, q 3, q 4, q 5, q 6, q 7])).trans ?_
  interval_cases i <;> rfl

/-- Bit 9 of a symbol is the inversion (R134). -/
theorem tmdsSymbol_bit9 (d : Int) (D : Byte) : (tmdsSymbol d D).getLsbD 9 = chooseInvert d D := by
  simp only [tmdsSymbol]
  rw [BitVec.getLsbD_append, BitVec.getLsbD_append]
  cases chooseInvert d D <;> simp

/-- Bit 8 of a symbol is q_m[8] (R134). -/
theorem tmdsSymbol_bit8 (d : Int) (D : Byte) : (tmdsSymbol d D).getLsbD 8 = qmXorFlag D := by
  simp only [tmdsSymbol]
  rw [BitVec.getLsbD_append, BitVec.getLsbD_append]
  cases chooseInvert d D <;> simp

/-- A data bit of a symbol, the inversion undone, is that bit of q_m (R134). -/
theorem tmdsSymbol_data (d : Int) (D : Byte) {i : Nat} (h : i < 8) :
    ((tmdsSymbol d D).getLsbD i ^^ (tmdsSymbol d D).getLsbD 9) = (qmByte D).getLsbD i := by
  rw [tmdsSymbol_bit9]
  simp only [tmdsSymbol]
  rw [BitVec.getLsbD_append, if_pos h]
  cases chooseInvert d D <;> simp [h]

end Sys2Proof.Machine
end

