-- ==== Sys2Proof/Laws/Encoding.lean ====
section
/-! SUPPORT. The fields of an encoded command word, and when a word has no unused bit set. -/

namespace Sys2Proof

theorem getLsbD_cmdWord (opc f1 f2 : Byte) (i : Nat) : (cmdWord opc f1 f2).getLsbD i =
    if i < 8 then opc.getLsbD i else if i < 16 then f1.getLsbD (i - 8)
      else if i < 24 then f2.getLsbD (i - 16) else false := by
  unfold cmdWord
  rw [BitVec.getLsbD_append, BitVec.getLsbD_append, BitVec.getLsbD_append]
  split_ifs <;> simp_all [Nat.sub_sub] <;> omega

@[simp] theorem cmdOpc_cmdWord (opc f1 f2 : Byte) : cmdOpc (cmdWord opc f1 f2) = opc := by
  refine BitVec.eq_of_getLsbD_eq fun i hi => ?_
  simp [cmdOpc, getLsbD_cmdWord, hi]

@[simp] theorem cmdF1_cmdWord (opc f1 f2 : Byte) : cmdF1 (cmdWord opc f1 f2) = f1 := by
  refine BitVec.eq_of_getLsbD_eq fun i hi => ?_
  simp [cmdF1, getLsbD_cmdWord, hi]
  intro h; omega

@[simp] theorem cmdF2_cmdWord (opc f1 f2 : Byte) : cmdF2 (cmdWord opc f1 f2) = f2 := by
  refine BitVec.eq_of_getLsbD_eq fun i hi => ?_
  have h1 : ¬ 16 + i < 8 := by omega
  have h2 : ¬ 16 + i < 16 := by omega
  have h3 : 16 + i < 24 := by omega
  simp [cmdF2, getLsbD_cmdWord, hi, h1, h2, h3]

@[simp] theorem cmdSel_cmdWord (opc f2 : Byte) (c : BitVec 2) : cmdSel (cmdWord opc (selField c) f2) = c := by
  refine BitVec.eq_of_getLsbD_eq fun i hi => ?_
  simp only [cmdSel, BitVec.getLsbD_extractLsb', getLsbD_cmdWord, selField, BitVec.getLsbD_append]
  have h1 : ¬ 8 + i < 8 := by omega
  have h2 : 8 + i < 16 := by omega
  simp [hi, h1, h2]

/-- No bit of `w` is set above the low `k` bits (R104). -/
theorem unused_bits_zero (w : Word) (k : Nat) :
    w &&& ~~~BitVec.ofNat 32 (2 ^ k - 1) = 0#32 ↔ w.toNat / 2 ^ k = 0 := by
  rw [Nat.div_eq_zero_iff, or_iff_right (by positivity)]
  constructor
  · intro h
    apply Nat.lt_pow_two_of_testBit
    intro i hi
    by_cases h32 : i < 32
    · have := congrArg (fun v => BitVec.getLsbD v i) h
      simp only [BitVec.getLsbD_and, BitVec.getLsbD_not, BitVec.getLsbD_ofNat,
        Nat.testBit_two_pow_sub_one] at this
      show w.getLsbD i = false
      have hik : ¬ i < k := by omega
      cases hw : w.getLsbD i
      · rfl
      · rw [hw] at this; simp [h32, hik] at this
    · exact BitVec.getLsbD_of_ge w i (by omega)
  · intro h
    refine BitVec.eq_of_getLsbD_eq fun i hi => ?_
    rw [BitVec.getLsbD_and, BitVec.getLsbD_not, BitVec.getLsbD_ofNat, Nat.testBit_two_pow_sub_one]
    by_cases hik : i < k
    · simp [hi, hik]
    · have : w.getLsbD i = false := by
        rw [BitVec.getLsbD, Nat.testBit_lt_two_pow (lt_of_lt_of_le h (Nat.pow_le_pow_right (by decide) (by omega)))]
      simp [this]

theorem cmdWord_toNat (opc f1 f2 : Byte) :
    (cmdWord opc f1 f2).toNat = opc.toNat + 2 ^ 8 * f1.toNat + 2 ^ 16 * f2.toNat := by
  have h1 := opc.isLt
  have h2 := f1.isLt
  rw [cmdWord, BitVec.toNat_append, BitVec.toNat_append, BitVec.toNat_append,
    ← Nat.shiftLeft_add_eq_or_of_lt h1, Nat.shiftLeft_eq, ← Nat.shiftLeft_add_eq_or_of_lt h2,
    Nat.shiftLeft_eq]
  simp
  omega

end Sys2Proof
end

