-- ==== Sys2Proof/Laws/Memory.lean ====
section
/-! SUPPORT. The laws of system memory: what a read gives after a write, and that every write keeps the canonical
form. -/

namespace Sys2Proof.Machine

variable {bg : Nat → Byte}

/-! ### The canonical form -/

theorem Memory.wfFrom_cons {lo k : Nat} {v : Byte} {rest : Memory} :
    Memory.wfFrom bg lo ((k, v) :: rest) = true ↔
      lo ≤ k ∧ k < 2 ^ 32 ∧ v ≠ bg k ∧ Memory.wfFrom bg (k + 1) rest = true := by
  simp [Memory.wfFrom, and_assoc]

theorem Memory.wfFrom_mono {lo lo' : Nat} {m : Memory} (h : Memory.wfFrom bg lo m = true) (hl : lo' ≤ lo) :
    Memory.wfFrom bg lo' m = true := by
  cases m with
  | nil => rfl
  | cons c rest =>
    obtain ⟨k, v⟩ := c
    rw [Memory.wfFrom_cons] at h ⊢
    exact ⟨le_trans hl h.1, h.2⟩

/-- An address below every listed one reads as the unlisted byte. -/
theorem Memory.read_below {lo : Nat} {m : Memory} (h : Memory.wfFrom bg lo m = true) {a : Nat} (ha : a < lo) :
    m.read bg a = bg a := by
  induction m generalizing lo with
  | nil => rfl
  | cons c rest ih =>
    obtain ⟨k, v⟩ := c
    rw [Memory.wfFrom_cons] at h
    have hk : a ≠ k := by omega
    simp only [Memory.read, if_neg hk]
    exact ih h.2.2.2 (by omega)

theorem Memory.wfFrom_put {lo a : Nat} {b : Byte} {rest : Memory} (hlo : lo ≤ a) (ha : a < 2 ^ 32)
    (h : Memory.wfFrom bg (a + 1) rest = true) : Memory.wfFrom bg lo (Memory.put bg a b rest) = true := by
  unfold Memory.put
  split
  · exact Memory.wfFrom_mono h (by omega)
  · exact Memory.wfFrom_cons.mpr ⟨hlo, ha, ‹_›, h⟩

theorem Memory.wfFrom_write {lo a : Nat} {b : Byte} {m : Memory} (hlo : lo ≤ a) (ha : a < 2 ^ 32)
    (h : Memory.wfFrom bg lo m = true) : Memory.wfFrom bg lo (m.write bg a b) = true := by
  induction m generalizing lo with
  | nil => exact Memory.wfFrom_put hlo ha rfl
  | cons c rest ih =>
    obtain ⟨k, v⟩ := c
    have hc := Memory.wfFrom_cons.mp h
    simp only [Memory.write]
    split
    · exact Memory.wfFrom_put hlo ha (Memory.wfFrom_cons.mpr ⟨by omega, hc.2⟩)
    · split
      · next hak => subst hak; exact Memory.wfFrom_put hlo ha hc.2.2.2
      · exact Memory.wfFrom_cons.mpr ⟨hc.1, hc.2.1, hc.2.2.1, ih (by omega) hc.2.2.2⟩

/-- A byte write keeps the canonical form. -/
theorem Memory.wf_write {m : Memory} (h : m.wf bg = true) {a : Nat} (ha : a < 2 ^ 32) (b : Byte) :
    (m.write bg a b).wf bg = true :=
  Memory.wfFrom_write (Nat.zero_le a) ha h

/-- A write of several bytes keeps the canonical form. -/
theorem Memory.wf_writeBytes {m : Memory} (h : m.wf bg = true) {a : Nat} (v : Word) {n : Nat}
    (ha : a + n ≤ 2 ^ 32) : (m.writeBytes bg a v n).wf bg = true := by
  induction n with
  | zero => exact h
  | succ n ih => exact Memory.wf_write (ih (by omega)) (by omega) _

/-! ### Reads after writes -/

theorem Memory.read_put_self {a : Nat} {b : Byte} {rest : Memory}
    (h : Memory.wfFrom bg (a + 1) rest = true) : (Memory.put bg a b rest).read bg a = b := by
  unfold Memory.put
  split
  · next hb => rw [Memory.read_below h (by omega), hb]
  · simp [Memory.read]

theorem Memory.read_put_ne {a c : Nat} {b : Byte} {rest : Memory} (hc : c ≠ a) :
    (Memory.put bg a b rest).read bg c = rest.read bg c := by
  unfold Memory.put
  split
  · rfl
  · simp [Memory.read, hc]

theorem Memory.read_write_selfFrom {lo a : Nat} {b : Byte} {m : Memory}
    (h : Memory.wfFrom bg lo m = true) : (m.write bg a b).read bg a = b := by
  induction m generalizing lo with
  | nil => exact Memory.read_put_self rfl
  | cons c rest ih =>
    obtain ⟨k, v⟩ := c
    have hc := Memory.wfFrom_cons.mp h
    simp only [Memory.write]
    split
    · exact Memory.read_put_self (Memory.wfFrom_cons.mpr ⟨by omega, hc.2⟩)
    · split
      · next hak => subst hak; exact Memory.read_put_self hc.2.2.2
      · next hak => simp only [Memory.read, if_neg hak]; exact ih hc.2.2.2

/-- A byte reads as what was last written to it. -/
theorem Memory.read_write_self {m : Memory} (h : m.wf bg = true) (a : Nat) (b : Byte) :
    (m.write bg a b).read bg a = b :=
  Memory.read_write_selfFrom h

/-- A byte write leaves every other byte alone. -/
theorem Memory.read_write_ne {m : Memory} {a c : Nat} (b : Byte) (hc : c ≠ a) :
    (m.write bg a b).read bg c = m.read bg c := by
  induction m with
  | nil => exact Memory.read_put_ne hc
  | cons e rest ih =>
    obtain ⟨k, v⟩ := e
    simp only [Memory.write]
    split
    · exact Memory.read_put_ne hc
    · split
      · next hak => subst hak; rw [Memory.read_put_ne hc]; simp [Memory.read, hc]
      · simp only [Memory.read, ih]

/-- A write of `n` bytes leaves every byte outside them alone. -/
theorem Memory.read_writeBytes_outside {m : Memory} {a c : Nat} (v : Word) {n : Nat}
    (hc : c < a ∨ a + n ≤ c) : (m.writeBytes bg a v n).read bg c = m.read bg c := by
  induction n with
  | zero => rfl
  | succ n ih =>
    simp only [Memory.writeBytes]
    rw [Memory.read_write_ne _ (by omega), ih (by omega)]

/-- A write of `n` bytes puts byte `k` of the word at address `a + k` (little-endian, R72). -/
theorem Memory.read_writeBytes_inside {m : Memory} (h : m.wf bg = true) {a k : Nat} (v : Word) {n : Nat}
    (hn : a + n ≤ 2 ^ 32) (hk : k < n) :
    (m.writeBytes bg a v n).read bg (a + k) = v.extractLsb' (8 * k) 8 := by
  induction n with
  | zero => omega
  | succ n ih =>
    simp only [Memory.writeBytes]
    rcases Nat.lt_succ_iff_lt_or_eq.mp hk with hlt | rfl
    · rw [Memory.read_write_ne _ (by omega), ih (by omega) hlt]
    · exact Memory.read_write_self (Memory.wf_writeBytes h v (by omega)) _ _

/-- A 32-bit write reads back as the word written (R72). -/
theorem Memory.readWord_writeBytes {m : Memory} (h : m.wf bg = true) {a : Nat} (v : Word)
    (hn : a + 4 ≤ 2 ^ 32) : (m.writeBytes bg a v 4).readWord bg a = v := by
  unfold Memory.readWord
  rw [Memory.read_writeBytes_inside h v hn (k := 3) (by omega),
    Memory.read_writeBytes_inside h v hn (k := 2) (by omega),
    Memory.read_writeBytes_inside h v hn (k := 1) (by omega)]
  have h0 := Memory.read_writeBytes_inside h v hn (k := 0) (by omega)
  rw [Nat.add_zero] at h0
  rw [h0]
  ext i hi
  simp only [BitVec.getElem_append, BitVec.getElem_extractLsb']
  split <;> [skip; split <;> [skip; split]] <;>
    (rw [← BitVec.getLsbD_eq_getElem]; congr 1; omega)

/-- A 32-bit write leaves every word outside it alone. -/
theorem Memory.readWord_writeBytes_outside {m : Memory} {a c : Nat} (v : Word) {n : Nat}
    (hc : c + 4 ≤ a ∨ a + n ≤ c) : (m.writeBytes bg a v n).readWord bg c = m.readWord bg c := by
  unfold Memory.readWord
  rw [Memory.read_writeBytes_outside v (by omega), Memory.read_writeBytes_outside v (by omega),
    Memory.read_writeBytes_outside v (by omega), Memory.read_writeBytes_outside v (by omega)]

/-! ### Where the cells are -/

/-- Every cell of a written memory is an old cell or lies at the written address. -/
theorem Memory.mem_write {m : Memory} {a : Nat} {b : Byte} {c : Host.Cell} (h : c ∈ m.write bg a b) :
    c ∈ m ∨ c.1 = a := by
  induction m with
  | nil =>
    simp only [Memory.write, Memory.put] at h
    split at h
    · cases h
    · right; rw [List.mem_singleton.mp h]
  | cons e rest ih =>
    obtain ⟨k, v⟩ := e
    simp only [Memory.write, Memory.put] at h
    split at h
    · split at h
      · exact .inl h
      · rcases List.mem_cons.mp h with rfl | h'
        · exact .inr rfl
        · exact .inl h'
    · split at h
      · split at h
        · exact .inl (List.mem_cons_of_mem _ h)
        · rcases List.mem_cons.mp h with rfl | h'
          · exact .inr rfl
          · exact .inl (List.mem_cons_of_mem _ h')
      · rcases List.mem_cons.mp h with rfl | h'
        · exact .inl (List.mem_cons_self ..)
        · rcases ih h' with h'' | h''
          · exact .inl (List.mem_cons_of_mem _ h'')
          · exact .inr h''

/-- Every cell after a write of `n` bytes is an old cell or lies among them. -/
theorem Memory.mem_writeBytes {m : Memory} {a : Nat} {v : Word} {n : Nat} {c : Host.Cell}
    (h : c ∈ m.writeBytes bg a v n) : c ∈ m ∨ (a ≤ c.1 ∧ c.1 < a + n) := by
  induction n with
  | zero => exact .inl h
  | succ n ih =>
    rcases Memory.mem_write h with h' | h'
    · rcases ih h' with h'' | h''
      · exact .inl h''
      · exact .inr ⟨h''.1, by omega⟩
    · exact .inr ⟨by omega, by omega⟩

/-- The memory of the machine after reset is canonical. -/
theorem reset_memCanonical : memCanonical State.reset = true := rfl

/-! ### Stores (R13, R72) -/

/-- A store at a multiple of its width ends within the address space. -/
theorem store_bound {width : AccessWidth} {addr : Word} (h : addr.toNat % width.bytes = 0) :
    addr.toNat + width.bytes ≤ 2 ^ 32 := by
  have := addr.isLt
  cases width <;> simp only [AccessWidth.bytes] at * <;> omega

/-- An aligned store keeps the canonical form. -/
theorem memCanonical_storeMem {width : AccessWidth} {addr : Word} (v : Word) {s : State}
    (hm : memCanonical s = true) (h : addr.toNat % width.bytes = 0) :
    memCanonical (storeMem width addr v s) = true :=
  Memory.wf_writeBytes hm v (store_bound h)

/-- A store leaves every byte outside it alone. -/
theorem memByte_storeMem_outside {width : AccessWidth} {addr v : Word} {s : State} {a : Nat}
    (h : a < addr.toNat ∨ addr.toNat + width.bytes ≤ a) :
    memByte (storeMem width addr v s) a = memByte s a :=
  Memory.read_writeBytes_outside v h

/-- An aligned store puts byte `k` of the word at `addr + k`. -/
theorem memByte_storeMem_inside {width : AccessWidth} {addr : Word} (v : Word) {s : State} {k : Nat}
    (hm : memCanonical s = true) (h : addr.toNat % width.bytes = 0) (hk : k < width.bytes) :
    memByte (storeMem width addr v s) (addr.toNat + k) = v.extractLsb' (8 * k) 8 :=
  Memory.read_writeBytes_inside hm v (store_bound h) hk

/-- Every cell after a store is an old cell or lies among the bytes stored. -/
theorem mem_storeMem {width : AccessWidth} {addr v : Word} {s : State} {c : Host.Cell}
    (h : c ∈ (storeMem width addr v s).mem) :
    c ∈ s.mem ∨ (addr.toNat ≤ c.1 ∧ c.1 < addr.toNat + width.bytes) :=
  Memory.mem_writeBytes h

/-- Everything another core's write can do: one aligned store outside the window, or nothing. -/
theorem otherCoreWrite_cases (width : AccessWidth) (addr v : Word) (s : State) :
    (inWindow s.params addr = false ∧ addr.toNat % width.bytes = 0 ∧
      otherCoreWrite width addr v s = storeMem width addr v s) ∨ otherCoreWrite width addr v s = s := by
  unfold otherCoreWrite
  split
  · next h => exact .inl ⟨h.1, h.2, rfl⟩
  · exact .inr rfl

end Sys2Proof.Machine
end

