-- ==== Sys2Proof/Laws/PerInstr.lean ====
section
/-! SUPPORT. Statements made for every command, one lemma a constructor. -/

namespace Sys2Proof.Laws

/-- The word a command assembles to has an assigned opcode in its low byte (R103) and zeros in the reserved field
31:24 (R101). -/
def EncodesOpcode.Statement (i : Instr) : Prop :=
  (opcodeRow (cmdOpc (encode i))).isSome = true ∧ (encode i).toNat < 2 ^ 24

theorem EncodesOpcode.of_fields {opc f1 f2 : Byte} (h : (opcodeRow opc).isSome = true) :
    (opcodeRow (cmdOpc (cmdWord opc f1 f2))).isSome = true ∧ (cmdWord opc f1 f2).toNat < 2 ^ 24 := by
  refine ⟨by rw [cmdOpc_cmdWord]; exact h, ?_⟩
  have h0 := opc.isLt
  have h1 := f1.isLt
  have h2 := f2.isLt
  rw [cmdWord_toNat]
  omega

theorem EncodesOpcode.nop : EncodesOpcode.Statement .nop := EncodesOpcode.of_fields rfl

theorem EncodesOpcode.enc (byte : Byte) : EncodesOpcode.Statement (.enc byte) := EncodesOpcode.of_fields rfl

theorem EncodesOpcode.encPair (b0 b1 : Byte) : EncodesOpcode.Statement (.encPair b0 b1) := EncodesOpcode.of_fields rfl

theorem EncodesOpcode.encApprox (byte : Byte) : EncodesOpcode.Statement (.encApprox byte) := EncodesOpcode.of_fields rfl

theorem EncodesOpcode.ctrlSym (c : BitVec 2) : EncodesOpcode.Statement (.ctrlSym c) := EncodesOpcode.of_fields rfl

theorem EncodesOpcode.timReset : EncodesOpcode.Statement .timReset := EncodesOpcode.of_fields rfl

theorem EncodesOpcode.timAdvance : EncodesOpcode.Statement .timAdvance := EncodesOpcode.of_fields rfl

theorem EncodesOpcode.timIndex : EncodesOpcode.Statement .timIndex := EncodesOpcode.of_fields rfl

theorem EncodesOpcode.dmaSetup : EncodesOpcode.Statement .dmaSetup := EncodesOpcode.of_fields rfl

theorem EncodesOpcode.dmaUpdate : EncodesOpcode.Statement .dmaUpdate := EncodesOpcode.of_fields rfl

theorem EncodesOpcode.txSubmit (list : LineState) : EncodesOpcode.Statement (.txSubmit list) := EncodesOpcode.of_fields rfl

theorem EncodesOpcode.txSubmitActive : EncodesOpcode.Statement .txSubmitActive := EncodesOpcode.of_fields rfl

theorem EncodesOpcode.txWait : EncodesOpcode.Statement .txWait := EncodesOpcode.of_fields rfl

end Sys2Proof.Laws
end

