-- ==== Sys2Proof/Laws/Steps.lean ====
section
/-! SUPPORT. What a HOST step, a FETCHER step, an EMITTER step and a step of the machine can do. -/

namespace Sys2Proof.Machine

/-! ### Register writes -/

/-- Everything a HOST write to the window can do. -/
theorem regWrite_cases {off : Offset} {v : Word} {s t : State} (h : regWrite off v s = .next t) :
    t = s ∨ t = writeCtrl v s ∨ t = writeStatus v s ∨
      (regAt off = some .cmd ∧ ∃ i, decode v = .ok i ∧ exec i s = .next t) ∨
      (∃ c, t = cmdError c s) ∨ t = { s with arg0 := v } ∨ t = { s with arg1 := v } ∨
      ∃ r, t = writeCfg r v s := by
  unfold regWrite at h
  split at h
  · next r hr =>
    cases r <;> simp only [writeReg, runCommand] at h <;> first
      | (cases h; simp)
      | (cases h; exact .inr (.inr (.inr (.inr (.inr (.inr (.inr ⟨_, rfl⟩)))))))
      | skip
    split at h
    · next i hi => exact .inr (.inr (.inr (.inl ⟨hr, i, hi, h⟩)))
    · cases h; exact .inr (.inr (.inr (.inr (.inl ⟨_, rfl⟩))))
  · cases h; exact .inl rfl

/-- A configuration write: refused while running, else the field and, for some registers, the flags. -/
theorem writeCfg_cases (r : CfgReg) (v : Word) (s : State) :
    (s.ctrl.run = true ∧ writeCfg r v s = cmdError .running s) ∨
      (s.ctrl.run = false ∧ writeCfg r v s =
        { storeCfg r v s with status := if clearsBuilt r then flagUnbuilt s.status else s.status }) := by
  unfold writeCfg
  split
  · next h => exact .inl ⟨h, rfl⟩
  · next h => exact .inr ⟨by simpa using h, rfl⟩

/-- Storing a configuration field changes nothing but TIMING and TX_DST. -/
theorem storeCfg_eq (r : CfgReg) (v : Word) (s : State) :
    storeCfg r v s = { s with timing := (storeCfg r v s).timing, txDst := (storeCfg r v s).txDst } := by
  cases r <;> rfl

/-- A CTRL write: IRQ_EN alone, a refused start, or the start. -/
theorem writeCtrl_cases (v : Word) (s : State) :
    writeCtrl v s = setIrqEn (v.getLsbD 1) s ∨
      (s.ctrl.run = false ∧ writeCtrl v s = cmdError .startRefused (setIrqEn (v.getLsbD 1) s)) ∨
      (s.ctrl.run = false ∧ s.status.built = true ∧ vValid s.timing = true ∧
        (s.nextList = .active → s.status.srcValid = true) ∧
        writeCtrl v s = startEngine (setIrqEn (v.getLsbD 1) s)) := by
  unfold writeCtrl
  split
  · next h =>
    simp only [Bool.and_eq_true, Bool.not_eq_true'] at h
    split
    · exact .inr (.inl ⟨h.2, rfl⟩)
    · next hr =>
      simp [startRefused] at hr
      refine .inr (.inr ⟨h.2, hr.1.1, hr.1.2, ?_, rfl⟩)
      intro ha
      simpa [ha] using hr.2
  · exact .inl rfl

/-! ### HOST steps -/

/-- Everything a step of the HOST can do. -/
theorem hostStep_cases {s t : State} (h : hostStep s = .next t) :
    (t = { s with host := t.host } ∧ (t.host.holding = true → s.host.holding = true)) ∨
      (s.host.holding = true ∧ t = endHold (cmdError .notRunning s)) ∨
      (∃ off v, hostWrites s off v ∧ regWrite off v (dropHostOp s) = .next t) ∨
      (∃ (width : AccessWidth) (addr v : Word), inWindow s.params addr = false ∧ addr.toNat % width.bytes = 0 ∧
        t = storeMem width addr v (dropHostOp s)) := by
  unfold hostStep at h
  split at h
  · cases h; exact .inl ⟨rfl, id⟩
  split at h
  · next hh =>
    unfold resumeTxWait at h
    split at h
    · cases h; exact .inr (.inl ⟨hh, rfl⟩)
    · split at h
      · cases h; exact .inl ⟨rfl, fun hf => by cases hf⟩
      · cases h; exact .inl ⟨rfl, id⟩
  next hh =>
  have hh : s.host.holding = false := by simpa using hh
  split at h
  · cases h; exact .inl ⟨rfl, id⟩
  · next op rest hp =>
    have hs : s.host.stuck = false := by
      have hr := Bool.of_not_eq_false ‹¬ hostReady s = false›
      simp only [hostReady, Bool.and_eq_true, Bool.not_eq_true'] at hr
      exact hr.1
    have hw : ∀ width off v, hostWrite width off v (dropHostOp s) = .next t →
        (t = { s with host := t.host } ∧ (t.host.holding = true → s.host.holding = true)) ∨
          (width = .word ∧ regWrite off v (dropHostOp s) = .next t) := by
      intro width off v h
      unfold hostWrite at h
      split at h
      · next hok =>
        simp only [windowAccessOk, Bool.and_eq_true, beq_iff_eq] at hok
        exact .inr ⟨hok.1, h⟩
      · cases h; exact .inl ⟨rfl, id⟩
    cases op with
    | read width off =>
      simp only [runHostOp] at h
      unfold hostRead at h
      split at h
      · cases h; exact .inl ⟨rfl, id⟩
      · cases h; exact .inl ⟨rfl, id⟩
    | write width off v =>
      rcases hw width off v h with h' | ⟨rfl, h'⟩
      · exact .inl h'
      · exact .inr (.inr (.inl ⟨off, v, ⟨hs, hh, .inl (by rw [hp]; rfl)⟩, h'⟩))
    | memWrite width addr v =>
      simp only [runHostOp] at h
      unfold hostMemWrite at h
      split at h
      · next hin =>
        rcases hw _ _ _ h with h' | ⟨rfl, h'⟩
        · exact .inl h'
        · exact .inr (.inr (.inl ⟨_, v, ⟨hs, hh, .inr ⟨addr, hin, rfl, by rw [hp]; rfl⟩⟩, h'⟩))
      · next hin =>
        split at h
        · next ha =>
          cases h
          exact .inr (.inr (.inr ⟨width, addr, v, by simpa [dropHostOp] using hin, ha, rfl⟩))
        · cases h
    | waitIrq => cases h; exact .inl ⟨rfl, id⟩

/-! ### FETCHER and EMITTER steps -/

/-- Everything a FETCHER read can do when the word is there. -/
theorem fetchRead_cases {s t : State} (h : fetchRead s = .next t) :
    (memRead s (s.fetcher.lanes.get s.fetcher.fk).addr = .busError ∧ t = txFault s) ∨
      ∃ w, memRead s (s.fetcher.lanes.get s.fetcher.fk).addr = .word w ∧
        (s.fetcher.lanes.get s.fetcher.fk).rem ≠ 0#32 ∧
        ((s.fetcher.fk ≠ .lane2 ∧ t = pushWord s.fetcher.fk w s) ∨
          (s.fetcher.fk = .lane2 ∧ slotDone (pushWord .lane2 w s) = .next t)) := by
  unfold fetchRead at h
  dsimp only at h
  split at h
  · cases h
  · next hm => cases h; exact .inl ⟨hm, rfl⟩
  · next w hm =>
    split at h
    · cases h
    · next hr =>
      split at h
      · next hl => rw [hl] at h hm hr ⊢; exact .inr ⟨w, hm, hr, .inr ⟨rfl, h⟩⟩
      · next hl => cases h; exact .inr ⟨w, hm, hr, .inl ⟨hl, rfl⟩⟩

/-- What a FETCHER read leaves alone: everything but its own state, the FIFOs, FETCHCNT, CUR_LIST, ARMED and
STATUS. -/
theorem fetchRead_frame {s t : State} (h : fetchRead s = .next t) :
    t = { s with
      status := t.status
      fetcher := t.fetcher
      fetchCnt := t.fetchCnt
      curList := t.curList
      armed := t.armed
      fifo := t.fifo } := by
  have hc : ∀ l (sc r : State × Bool), completeLane l sc = some r →
      r.1 = { sc.1 with status := r.1.status, fetcher := r.1.fetcher } := by
    intro l sc r hr
    unfold completeLane at hr
    dsimp only at hr
    split_ifs at hr
    all_goals
      first
      | (cases hr; rfl)
      | (split at hr
         · cases hr; rfl
         · cases hr)
  rcases fetchRead_cases h with ⟨-, rfl⟩ | ⟨w, -, -, ⟨-, rfl⟩ | ⟨-, h⟩⟩
  · rfl
  · rfl
  · unfold slotDone at h
    cases e0 : completeLane .lane0 (countSlot (pushWord .lane2 w s), false) with
    | none => rw [e0] at h; simp at h
    | some r0 =>
      rw [e0] at h
      simp only [Option.bind_some] at h
      cases e1 : completeLane .lane1 r0 with
      | none => rw [e1] at h; simp at h
      | some r1 =>
        rw [e1] at h
        simp only [Option.bind_some] at h
        cases e2 : completeLane .lane2 r1 with
        | none => rw [e2] at h; simp at h
        | some r2 =>
          rw [e2] at h
          cases h
          have f0 := hc _ _ _ e0
          have f1 := hc _ _ _ e1
          have f2 := hc _ _ _ e2
          generalize r0.1 = x0 at *
          generalize r1.1 = x1 at *
          generalize r2.1 = x2 at *
          split <;> rw [f2, f1, f0] <;> rfl

/-- An enabled EMITTER step takes the three heads. -/
theorem emit_cases {s : State} (h : emitEnabled s = true) :
    s.ctrl.run = true ∧ s.status.txFault = false ∧
      ∃ w0 q0 w1 q1 w2 q2, s.fifo = ⟨w0 :: q0, w1 :: q1, w2 :: q2⟩ ∧
        emitTriple s =
          { s with
            fifo := ⟨q0, q1, q2⟩
            out := s.out ++ [⟨emitBits w0, emitBits w1, emitBits w2⟩]
            wordCnt := s.wordCnt + 1#32 } := by
  unfold emitEnabled at h
  simp only [Bool.and_eq_true, Bool.not_eq_true'] at h
  refine ⟨h.1.1.1.1, h.1.1.1.2, ?_⟩
  obtain ⟨⟨⟨-, h0⟩, h1⟩, h2⟩ := h
  unfold emitTriple
  generalize s.fifo = f at *
  obtain ⟨f0, f1, f2⟩ := f
  cases f0 <;> cases f1 <;> cases f2 <;> simp_all

/-! ### Which agent moves -/

/-- A step is one agent's step after the agenda has moved on, or nothing moves. -/
theorem step_cases {s t : State} (h : step s = .next t) :
    (∃ a, runAgent a (dropAgenda s) = .next t) ∨ t = s := by
  unfold step at h
  split at h
  · exact .inl ⟨_, h⟩
  · cases h; exact .inr rfl

end Sys2Proof.Machine
end

