-- ==== Sys2Proof/Tests/Slice0.lean ====
section
/-! SUPPORT. Tests: ill-formed accesses refused, command words written out bit by bit, the worked examples of the
spec's rules and of 95_test_vectors.md, and a witness for each obligation that has hypotheses. -/

namespace Sys2Proof.Tests

open Sys2Proof Sys2Proof.Machine

/-! ### Well-formedness -/

theorem test_wf_read_byte_refused : (HostOp.read .byte 0x000#12).wf = false := by decide
theorem test_wf_read_unaligned_refused : (HostOp.read .word 0x002#12).wf = false := by decide
theorem test_wf_write_half_refused : (HostOp.write .half 0x008#12 0#32).wf = false := by decide
theorem test_wf_write_unaligned_refused : (HostOp.write .word 0x009#12 0#32).wf = false := by decide
theorem test_wf_mem_word_unaligned_refused :
    (HostOp.memWrite .word 0x20000002#32 0#32).wf = false := by decide
theorem test_wf_mem_half_unaligned_refused :
    (HostOp.memWrite .half 0x20000001#32 0#32).wf = false := by decide
theorem test_wf_mem_byte_accepted : (HostOp.memWrite .byte 0x20000003#32 0#32).wf = true := by decide

/-! ### Command words, written out from the encoding of R101 and R103: 31:24, F2, F1, OPC -/

theorem test_decode_nop :
    decode 0b00000000_00000000_00000000_00000000#32 = .ok .nop := by decide
theorem test_decode_enc :
    decode 0b00000000_00000000_10100101_00000001#32 = .ok (.enc 0xA5#8) := by decide
theorem test_decode_encPair :
    decode 0b00000000_11110000_00001111_00000010#32 = .ok (.encPair 0x0F#8 0xF0#8) := by decide
theorem test_decode_encApprox :
    decode 0b00000000_00000000_10000001_00000011#32 = .ok (.encApprox 0x81#8) := by decide
theorem test_decode_ctrlSym :
    decode 0b00000000_00000000_00000010_00000100#32 = .ok (.ctrlSym 2#2) := by decide
theorem test_decode_timReset :
    decode 0b00000000_00000000_00000000_00010000#32 = .ok .timReset := by decide
theorem test_decode_timAdvance :
    decode 0b00000000_00000000_00000000_00010001#32 = .ok .timAdvance := by decide
theorem test_decode_timIndex :
    decode 0b00000000_00000000_00000000_00010010#32 = .ok .timIndex := by decide
theorem test_decode_dmaSetup :
    decode 0b00000000_00000000_00000000_00100000#32 = .ok .dmaSetup := by decide
theorem test_decode_dmaUpdate :
    decode 0b00000000_00000000_00000000_00100001#32 = .ok .dmaUpdate := by decide
theorem test_decode_txSubmit :
    decode 0b00000000_00000000_00000010_00110000#32 = .ok (.txSubmit .backPorch) := by decide
theorem test_decode_txSubmitActive :
    decode 0b00000000_00000000_00000000_00110001#32 = .ok .txSubmitActive := by decide
theorem test_decode_txWait :
    decode 0b00000000_00000000_00000000_00110010#32 = .ok .txWait := by decide
theorem test_decode_reserved_opcode :
    decode 0b00000000_00000000_00000000_00000101#32 = .error .reservedOpcode := by decide
theorem test_decode_reserved_bits :
    decode 0b00000000_00000000_00000100_00000100#32 = .error .reservedBits := by decide
/-- Opcode first, then the unused bits (R104). -/
theorem test_decode_opcode_before_bits :
    decode 0b10000000_00000000_00000000_00110011#32 = .error .reservedOpcode := by decide
theorem test_encode_encPair : encode (.encPair 0x00#8 0x01#8) = 0x00010002#32 := by decide
theorem test_decodeTableWord_enc : decodeTableWord 32 0x00001001 = some (.enc 0x10#8) := by decide

/-! ### States: the parameters and the small configuration of 95_test_vectors.md -/

def exParams : Params := ⟨0x40000#20, 7, [⟨0x20000000#32, 0x20041FFF#32⟩], [(0x20000001#32, 0xA5#8)]⟩

def exTiming : Timing := ⟨2#16, 2#16, 2#16, 4#16, 1#16, 1#16, 1#16, 2#16, 0#2, 0#32⟩

def exDst : Lanes Word := ⟨0x11110000#32, 0x22220000#32, 0x33330000#32⟩

/-- Stopped, configured, nothing built. -/
def exStopped : State := { State.reset with params := exParams, timing := exTiming, txDst := exDst }

/-- Stopped and built. -/
def exBuilt : State :=
  { exStopped with
    desc := buildDesc exParams exTiming exDst
    status := flagBuilt exStopped.status }

/-- The 640x480 counts of R165's example. -/
def exVga : State :=
  { exStopped with
    timing := ⟨16#16, 96#16, 48#16, 640#16, 10#16, 2#16, 33#16, 480#16, 0#2, 0#32⟩ }

/-- `p` of the next state; false where there is none. -/
def after (r : Result) (p : State → Bool) : Bool :=
  match r with
  | .next t => p t
  | .fault _ => false
  | .refused _ => false

/-! ### The commands: the examples of their rules -/

theorem test_nop : after (exec .nop exStopped) (fun t => t == exStopped) = true := by decide

/-- R136's example. -/
theorem test_enc_zero :
    after (exec (.enc 0x00#8) exStopped)
      (fun t => t.res0 == 0x00000100#32 && t.res1 == 0xFFFFFFFC#32) = true := by decide

/-- 95_test_vectors.md 2.4: the largest discrepancy does not overflow. -/
theorem test_enc_largest_discrepancy :
    after (exec (.enc 0xFF#8) { exStopped with arg0 := 0x7FFFFFFF#32 })
      (fun t => t.res0 == 0x00000200#32 && t.res1 == 0x7FFFFFFB#32) = true := by decide

/-- R138's example. -/
theorem test_encPair_residual_sets_unbal :
    after (exec (.encPair 0x00#8 0x00#8) exStopped)
      (fun t => t.res0 == 0x000FFD00#32 && t.res1 == 0x00000001#32 && t.status.unbal) = true := by decide

/-- 95_test_vectors.md 1.5: the red pair; a zero residual leaves UNBAL. -/
theorem test_encPair_balanced :
    after (exec (.encPair 0xFF#8 0xFE#8) exStopped)
      (fun t => t.res0 == 0x000BFE00#32 && t.res1 == 0#32 && !t.status.unbal) = true := by decide

/-- R139's example. -/
theorem test_encApprox_zero :
    after (exec (.encApprox 0x00#8) exStopped)
      (fun t => t.res0 == 0x0007FD00#32 && t.res1 == 0#32) = true := by decide

/-- R143's example. -/
theorem test_ctrlSym_three :
    after (exec (.ctrlSym 3#2) exStopped)
      (fun t => t.res0 == 0x000002AB#32 && t.res1 == 0x000AAEAB#32) = true := by decide

/-- R163's example. -/
theorem test_timReset :
    after (exec .timReset { exVga with vstate := .active, vctr := 17#32 })
      (fun t => t.vstate == .frontPorch && t.vctr == 0#32) = true := by decide

/-- R162's example. -/
theorem test_timAdvance_rolls :
    after (exec .timAdvance { exVga with vctr := 9#32 })
      (fun t => t.vstate == .sync && t.vctr == 0#32) = true := by decide

/-- R162: within a line-state the counter counts. -/
theorem test_timAdvance_counts :
    after (exec .timAdvance { exVga with vctr := 8#32 })
      (fun t => t.vstate == .frontPorch && t.vctr == 9#32) = true := by decide

/-- R165's example. -/
theorem test_timIndex_some :
    after (exec .timIndex { exVga with vstate := .backPorch, vctr := 32#32, arg0 := 1#32 })
      (fun t => t.res0 == 0#32 && t.res1 == 1#32) = true := by decide

/-- R165 (a): a large offset does not wrap. -/
theorem test_timIndex_no_wrap :
    after (exec .timIndex { exVga with vstate := .active, arg0 := 0xFFFFFFFF#32, res1 := 1#32 })
      (fun t => t.res0 == 0#32 && t.res1 == 0#32) = true := by decide

/-- 95_test_vectors.md 5.1: lane 0 slot 2 of the FrontPorch list, and BUILT. -/
theorem test_dmaSetup_back_porch_slot :
    after (exec .dmaSetup exStopped)
      (fun t => t.status.built &&
        descAt t.desc .frontPorch .lane0 .slot2 == ⟨0x4000010C#32, 0x11110000#32, 1#32, 0xA#32⟩) =
      true := by decide

/-- R195: refused while RUN = 1, cause 0x05. -/
theorem test_dmaSetup_running :
    after (exec .dmaSetup { exStopped with ctrl := ⟨true, false⟩ })
      (fun t => !t.status.built && t.status.errCause == 0x05#8) = true := by decide

/-- R200: the three SRC words. -/
theorem test_dmaUpdate :
    after (exec .dmaUpdate { exBuilt with arg0 := 0x20000000#32, arg1 := 0x10#32 })
      (fun t => activeSrc t.desc .lane0 == 0x20000000#32 && activeSrc t.desc .lane1 == 0x20000040#32 &&
        activeSrc t.desc .lane2 == 0x20000080#32) = true := by decide

/-- R228's example. -/
theorem test_txSubmit_sync :
    after (exec (.txSubmit .sync) exBuilt) (fun t => t.nextList == .sync && t.armed) = true := by decide

/-- R228: Active without a patch, cause 0x08. -/
theorem test_txSubmit_active_unset :
    after (exec (.txSubmit .active) exBuilt)
      (fun t => t.nextList == .frontPorch && t.status.errCause == 0x08#8) = true := by decide

/-- R230's example. -/
theorem test_txSubmitActive :
    after (exec .txSubmitActive
        { exBuilt with
          timing := { exTiming with hActive := 640#16 }
          arg0 := 0x20000000#32
          arg1 := 320#32 })
      (fun t => activeSrc t.desc .lane1 == 0x20000500#32 && activeSrc t.desc .lane2 == 0x20000A00#32 &&
        t.nextList == .active) = true := by decide

/-- R230: the length check, cause 0x07. -/
theorem test_txSubmitActive_length :
    after (exec .txSubmitActive { exBuilt with arg0 := 0x20000000#32, arg1 := 3#32 })
      (fun t => !t.armed && t.status.errCause == 0x07#8) = true := by decide

/-- R232: refused while stopped, cause 0x09. -/
theorem test_txWait_stopped :
    after (exec .txWait exBuilt)
      (fun t => !t.host.holding && t.status.errCause == 0x09#8) = true := by decide

/-- A command placed for the very next step runs, from reset (log 1). -/
theorem test_step_from_reset :
    after (step (State.reset.withFetchWord 32 0x00000304)) (fun t => t.res0 == 0x000002AB#32) = true := by
  decide

/-! ### A running engine -/

/-- Running on the FrontPorch list of the small configuration, the three lanes' blocks and the FIFOs given. -/
def exRun (f0 f1 f2 : LaneFetch) (fk : Lane) (n0 n1 n2 : Nat) : State :=
  { exBuilt with
    ctrl := ⟨true, true⟩
    fetchCnt := BitVec.ofNat 32 n2
    fetcher := ⟨⟨f0, f1, f2⟩, fk⟩
    fifo :=
      ⟨List.replicate n0 (symw 3#2), List.replicate n1 (symw 0#2), List.replicate n2 (symw 0#2)⟩ }

/-- A block of lane 0 outside the horizontal pulse, and one of lanes 1 and 2. -/
def blk0 (b : Slot) (rem : Word) (dc : Word) : LaneFetch := ⟨b, rem, 0x4000010C#32, dc⟩
def blk12 (b : Slot) (rem : Word) (dc : Word) : LaneFetch := ⟨b, rem, 0x40000100#32, dc⟩

/-- Right after Start. -/
def exFirst : State := exRun (blk0 .slot0 1#32 8#32) (blk12 .slot0 3#32 8#32) (blk12 .slot0 3#32 8#32) .lane0 0 0 0

/-- Lane 2's read of the first fetch slot is next. -/
def exSlot1 : State := exRun (blk0 .slot0 0#32 8#32) (blk12 .slot0 2#32 8#32) (blk12 .slot0 3#32 8#32) .lane2 1 1 0

/-- Lane 2's read that ends the inactive period is next: H_ACTIVE/2 words are left after it. -/
def exSlot3 : State := exRun (blk0 .slot2 0#32 10#32) (blk12 .slot0 0#32 8#32) (blk12 .slot0 1#32 8#32) .lane2 3 3 2

/-- Lane 2's read of the last word but one is next. -/
def exSlot4 : State :=
  exRun (blk0 .slot3 1#32 12#32) (blk12 .slot1 1#32 12#32) (blk12 .slot1 2#32 12#32) .lane2 4 4 3

/-- Lane 2's read that ends the line is next. -/
def exSlot5 : State :=
  exRun (blk0 .slot3 0#32 12#32) (blk12 .slot1 0#32 12#32) (blk12 .slot1 1#32 12#32) .lane2 5 5 4

/-- Lane 0's fetch slots of the horizontal pulse, of the back porch and of the active region are next. -/
def exPulse : State :=
  exRun ⟨.slot1, 1#32, 0x40000108#32, 8#32⟩ (blk12 .slot0 2#32 8#32) (blk12 .slot0 2#32 8#32) .lane0 1 1 1
def exPorch : State :=
  exRun (blk0 .slot2 1#32 10#32) (blk12 .slot0 1#32 8#32) (blk12 .slot0 1#32 8#32) .lane0 2 2 2
def exLast : State :=
  exRun (blk0 .slot3 2#32 12#32) (blk12 .slot1 2#32 12#32) (blk12 .slot1 2#32 12#32) .lane0 3 3 3

/-- The back porch of an Active line. -/
def exActive : State := { patchActive 0x20000000#32 2#32 exPorch with nextList := .active, curList := .active }

/-- `EngineInv`'s conditions on one lane, and all of them, of a running state, as one check. -/
def laneCheck (s : State) (l : Lane) : Bool :=
  let f := s.fetcher.lanes.get l
  let d := descAt s.desc s.curList l f.slot
  let ahead := laneAhead s.fetcher.fk l
  (laneLeft s l + ahead == laneLeft s .lane2) && slotUsed l f.slot && (f.dc == d.dctrl)
    && decide (f.rem.toNat ≤ d.count.toNat) && wordAligned f.addr && (dctrlIncr f.dc || f.addr == d.src)
    && decide (ahead = 0 → 1 ≤ f.rem.toNat) && decide (ahead = 1 → f.rem.toNat + 1 ≤ d.count.toNat)
    && ((s.fifo.get l).length == (s.fifo.get .lane2).length + ahead)
    && decide ((s.fifo.get l).length ≤ fifoDepth s.params)

def engineCheck (s : State) : Bool :=
  s.ctrl.run && decide (1 ≤ laneLeft s .lane2) && laneCheck s .lane0 && laneCheck s .lane1 && laneCheck s .lane2
    && (s.fetchCnt == s.wordCnt + BitVec.ofNat 32 (s.fifo.get .lane2).length)
    && (s.wordCnt == BitVec.ofNat 32 s.out.length)

theorem engineInv_of_check {s : State} (h : engineCheck s = true) : EngineInv s := by
  simp only [engineCheck, Bool.and_eq_true, decide_eq_true_eq, beq_iff_eq] at h
  obtain ⟨⟨⟨⟨⟨⟨hr, hp⟩, h0⟩, h1⟩, h2⟩, hf⟩, hw⟩ := h
  have hl : ∀ l, laneCheck s l = true := by intro l; cases l <;> assumption
  simp only [laneCheck, Bool.and_eq_true, Bool.or_eq_true, decide_eq_true_eq, beq_iff_eq] at hl
  exact
    { left_pos := fun _ => hp
      lockstep := fun _ l => (hl l).1.1.1.1.1.1.1.1.1
      block := fun _ l =>
        { used := (hl l).1.1.1.1.1.1.1.1.2
          dctrl := (hl l).1.1.1.1.1.1.1.2
          count := (hl l).1.1.1.1.1.1.2
          aligned := (hl l).1.1.1.1.1.2
          repeats := fun hd => (hl l).1.1.1.1.2.resolve_left (by simp [hd]) }
      unread := fun _ l => (hl l).1.1.1.2
      read := fun _ l => (hl l).1.1.2
      fifo_equal := fun _ l => (hl l).1.2
      fifo_bound := fun _ l => (hl l).2
      fetched := fun _ => hf
      emitted := hw
      stopped := fun h => by rw [hr] at h; cases h }

theorem exRun_inv {f0 f1 f2 : LaneFetch} {fk : Lane} {n0 n1 n2 : Nat}
    (h : engineCheck (exRun f0 f1 f2 fk n0 n1 n2) = true) : Inv (exRun f0 f1 f2 fk n0 n1 n2) where
  mem := ⟨rfl, fun c hc => by cases hc⟩
  flags :=
    ⟨fun _ => rfl, fun _ => (by decide : vValid exTiming = true), fun _ => (by decide : hValid exTiming = true),
      fun _ => rfl, fun _ => nofun, fun _ => nofun, nofun, rfl, fun _ => rfl, nofun⟩
  chain := by
    refine ⟨fun _ => rfl, fun _ l => ?_, fun _ _ l => ?_⟩ <;> cases l <;> rfl
  engine := engineInv_of_check h

theorem exFirst_inv : Inv exFirst := exRun_inv (by decide)
theorem exSlot1_inv : Inv exSlot1 := exRun_inv (by decide)
theorem exSlot3_inv : Inv exSlot3 := exRun_inv (by decide)
theorem exSlot4_inv : Inv exSlot4 := exRun_inv (by decide)
theorem exSlot5_inv : Inv exSlot5 := exRun_inv (by decide)
theorem exPulse_inv : Inv exPulse := exRun_inv (by decide)
theorem exPorch_inv : Inv exPorch := exRun_inv (by decide)
theorem exLast_inv : Inv exLast := exRun_inv (by decide)

theorem exActive_inv : Inv exActive where
  mem := ⟨rfl, fun c hc => by cases hc⟩
  flags :=
    ⟨fun _ => rfl, fun _ => (by decide : vValid exTiming = true), fun _ => (by decide : hValid exTiming = true),
      fun _ => rfl, fun _ _ => rfl, fun _ _ => rfl,
      fun h => absurd h (by decide), by decide, fun _ => by decide, fun h => absurd h (by decide)⟩
  chain := by
    refine ⟨fun _ => by decide, fun _ l => ?_, fun _ h => absurd h (by decide)⟩
    cases l <;> decide
  engine := engineInv_of_check (by decide)

/-- R220: the state right after Start, from a submitted list. -/
theorem test_start :
    after (regWrite 0x000#12 0x3#32 { exBuilt with armed := true }) (fun t => t == exFirst) = true := by
  decide

/-- R225, R199: the end of lane 0's blanking run raises LINE_IRQ. -/
theorem test_line_irq :
    after (runAgent .fetcher exSlot3)
      (fun t => t.status.lineIrq && t.fetchCnt == 3#32 && t.fetcher.lanes.l0.slot == .slot3) = true := by
  decide

/-- R226: the crossing with no list submitted reports MISSED. -/
theorem test_crossing_missed :
    after (runAgent .fetcher { exSlot5 with nextList := .sync })
      (fun t => t.curList == .sync && t.status.missed && t.fetchCnt == 5#32) = true := by
  decide

/-- R232: TX_WAIT holds while FETCHCNT is below ARG0, and not at ARG0. -/
theorem test_txWait_holds :
    (after (exec .txWait { exSlot5 with arg0 := 5#32 }) (fun t => t.host.holding) &&
      after (exec .txWait { exSlot5 with arg0 := 4#32 }) (fun t => !t.host.holding)) = true := by decide

/-- R274, log 17: another core's store lands while the HOST holds in TX_WAIT; the word read is little-endian (R72),
its other bytes those of the platform's contents (R8, log 6). -/
theorem test_other_core_writes_in_hold :
    after (runAgent (.otherCore .byte 0x20000003#32 0x7F#32) (beginHold exFirst))
      (fun t => t.host.holding && memRead t 0x20000000#32 == .word 0x7F00A500#32) = true := by decide

/-- R235: bits 31:20 are dropped. -/
theorem test_emit :
    after (runAgent .emitter { exFirst with fifo := ⟨[0xFFF00001#32], [2#32], [3#32, 4#32]⟩ })
      (fun t => t.out == [⟨1#20, 2#20, 3#20⟩] && t.wordCnt == 1#32 && t.fifo.l2 == [4#32]) = true := by
  decide

/-! ### Witnesses: for each obligation with hypotheses, a state and operands that meet them -/

theorem test_witness_DecodeOfEncode : (Instr.txSubmit .active).wf = true := by decide

theorem test_witness_EncodeOfDecode : decode 0x00FF0002#32 = .ok (.encPair 0x00#8 0xFF#8) := by decide

/-- Both forms: the agenda names the HOST, and the agenda is empty. -/
theorem test_witness_StepRunsDecodedCommand :
    let s := { exStopped with host := ⟨[.write .word 0x008#12 0x00000011#32], false, false, 0#32⟩ }
    s.agenda = [] ∧ ({ s with agenda := [.host, .fetcher] } : State).agenda.head? = some .host ∧
      s.host.stuck = false ∧ s.host.holding = false ∧
      s.host.program = [.write .word 0x008#12 0x00000011#32] ∧
      decode 0x00000011#32 = .ok .timAdvance ∧ Instr.timAdvance.wf = true := by decide

theorem test_witness_RefusedWordsRaiseOnlyCmdError :
    decode 0x00000013#32 = .error .reservedOpcode ∧ decode 0x00000110#32 = .error .reservedBits := by
  decide

/-- For the CommandWords part of the commands' statements: with and without a bit outside the used fields. -/
theorem test_witness_CommandWords :
    cmdOpc 0x00000100#32 = 0x00#8 ∧ cmdOpc 0x0000FF01#32 = 0x01#8 ∧ cmdOpc 0x00FFFF02#32 = 0x02#8 ∧
      cmdOpc 0x00010003#32 = 0x03#8 ∧ cmdOpc 0x00000704#32 = 0x04#8 ∧ cmdOpc 0x00000010#32 = 0x10#8 ∧
      cmdOpc 0x00000011#32 = 0x11#8 ∧ cmdOpc 0x80000012#32 = 0x12#8 ∧ cmdOpc 0x00000020#32 = 0x20#8 ∧
      cmdOpc 0x00000021#32 = 0x21#8 ∧ cmdOpc 0x00000330#32 = 0x30#8 ∧ cmdOpc 0x00000031#32 = 0x31#8 ∧
      cmdOpc 0x00000132#32 = 0x32#8 := by decide

theorem test_witness_SymbolCarriesStageOne : 1 ≤ 7 ∧ 7 ≤ 7 := by decide

theorem test_witness_SymbolDeterminesByte : tmdsSymbol 1 0x55#8 = tmdsSymbol 3 0x55#8 := by decide

theorem test_witness_DiscrepancyBounds : (-4 : Int) ≤ 4 ∧ (0 : Int) < 1 ∧ (-1 : Int) < 0 := by decide

/-- Rolling, counting and refused. -/
theorem test_witness_TimAdvanceRule :
    (1 ≤ exVga.timing.vFp.toNat ∧ ({ exVga with vctr := 9#32 } : State).vctr.toNat + 1 ≥ 10) ∧
      ({ exVga with vctr := 8#32 } : State).vctr.toNat + 1 < exVga.timing.vFp.toNat ∧
      vValid exVga.timing = true ∧ ¬ (1 ≤ State.reset.timing.vFp.toNat) := by decide

theorem test_witness_TimIndexRule :
    vValid exVga.timing = true ∧ vValid State.reset.timing = false := by decide

theorem test_witness_FramePeriodicity :
    let s := { exStopped with vstate := .active, vctr := 1#32 }
    vValid s.timing = true ∧ s.vctr.toNat < lineCount s.timing s.vstate ∧ 0 < 4 ∧ 4 < totalLines s.timing := by
  decide

theorem test_witness_IndexCoversEachRowOnce :
    let s := { exStopped with arg0 := 3#32 }
    vValid s.timing = true ∧ s.vstate = .frontPorch ∧ s.vctr = 0#32 ∧
      s.arg0.toNat ≤ blankLines s.timing ∧ 4 < totalLines s.timing ∧ 1 < s.timing.vActive.toNat := by
  decide

/-- For OnlyTimingCommandsMoveTiming: another command, another agent, another register, and the HOST's TIM_ADVANCE. -/
theorem test_witness_OnlyTimingCommandsMoveTiming :
    exec .dmaSetup exStopped = .next exBuilt ∧ Instr.dmaSetup ≠ .timReset ∧ Instr.dmaSetup ≠ .timAdvance ∧
      writeReg .res0 1#32 exBuilt = .next exBuilt ∧ Reg.res0 ≠ .cmd ∧
      runAgent .emitter exBuilt = .next exBuilt ∧ Agent.emitter ≠ .reset ∧
      after (runAgent .host { exStopped with host := ⟨[cmd .timAdvance], false, false, 0#32⟩ })
        (fun t => t.vstate == .sync) = true :=
  ⟨rfl, by decide, by decide, rfl, by decide, rfl, by decide, by decide⟩

/-- For DmaSetupRule: stopped and valid, running, and a width of 0 and an odd one. -/
theorem test_witness_DmaSetupRule :
    exStopped.ctrl.run = false ∧
      (1 ≤ exTiming.vFp.toNat ∧ 1 ≤ exTiming.vSync.toNat ∧ 1 ≤ exTiming.vBp.toNat ∧
        1 ≤ exTiming.vActive.toNat) ∧
      (∀ w ∈ [exTiming.hFp, exTiming.hSync, exTiming.hBp, exTiming.hActive],
        2 ≤ w.toNat ∧ w.toNat % 2 = 0) ∧
      exStopped.timing = exTiming ∧ exFirst.ctrl.run = true ∧ ¬ (2 ≤ (0#16).toNat) ∧ (3#16).toNat % 2 ≠ 0 :=
  ⟨rfl, by decide, by simp [exTiming], rfl, rfl, by decide, by decide⟩

/-- For BuiltLaneZeroTable, BuiltLanesOneTwoTable, LaneSumsAreOneLine and OneInterruptSlotPerList. -/
theorem test_witness_built_tables :
    exec .dmaSetup exStopped = .next exBuilt ∧ exStopped.ctrl.run = false ∧
      vValid exStopped.timing = true ∧ hValid exStopped.timing = true ∧ Lane.lane1 ≠ .lane0 ∧
      LineState.sync ≠ .active := ⟨rfl, by decide, by decide, by decide, by decide, by decide⟩

theorem test_witness_SyncPolarityTable : LineState.backPorch ≠ .sync := by decide

/-- For DmaUpdateRule: patched, not built, misaligned. -/
theorem test_witness_DmaUpdateRule :
    exBuilt.status.built = true ∧ ({ exBuilt with arg0 := 0xFFFFFFFC#32 } : State).arg0.toNat % 4 = 0 ∧
      exStopped.status.built = false ∧ ({ exBuilt with arg0 := 1#32 } : State).arg0.toNat % 4 ≠ 0 := by
  decide

/-- For OnlySetupAndPatchesChangeDesc: another command, DMA_SETUP while running, another register, another agent, and
the HOST's DMA_SETUP. -/
theorem test_witness_OnlySetupAndPatchesChangeDesc :
    exec (.txSubmit .sync) exBuilt = .next { exBuilt with nextList := .sync, armed := true } ∧
      exec .dmaSetup exFirst = .next (cmdError .running exFirst) ∧ exFirst.ctrl.run = true ∧
      writeReg .res0 1#32 exBuilt = .next exBuilt ∧ Reg.res0 ≠ .cmd ∧
      runAgent .fetcher exBuilt = .next exBuilt ∧ Agent.fetcher ≠ .reset ∧
      runAgent .host { exStopped with host := ⟨[cmd .dmaSetup], false, false, 0#32⟩ } = .next exBuilt :=
  ⟨rfl, rfl, rfl, rfl, by decide, rfl, by decide, rfl⟩

/-- For TxSubmitRule: submitted, Active with a patch, not built, Active without a patch. -/
theorem test_witness_TxSubmitRule :
    (exBuilt.status.built = true ∧ exBuilt.status.srcValid = false) ∧ exStopped.status.built = false ∧
      (patchActive 0x20000000#32 2#32 exBuilt).status.srcValid = true := by decide

/-- For TxSubmitActiveRule: patched, not built, misaligned, wrong length. -/
theorem test_witness_TxSubmitActiveRule :
    let s := { exBuilt with arg0 := 0x20000004#32, arg1 := 2#32 }
    (s.status.built = true ∧ s.arg0.toNat % 4 = 0 ∧ s.arg1.toNat = s.timing.hActive.toNat / 2) ∧
      exStopped.status.built = false ∧ (0x20000007#32).toNat % 4 ≠ 0 ∧
      (3#32).toNat ≠ s.timing.hActive.toNat / 2 := by decide

/-- For TxWaitRule: the count reached at the boundary, one short of it, stopped, faulted. -/
theorem test_witness_TxWaitRule :
    (exSlot5.ctrl.run = true ∧ exSlot5.status.txFault = false) ∧
      ({ exSlot5 with arg0 := 4#32 } : State).arg0.toNat ≤ exSlot5.fetchCnt.toNat ∧
      exSlot5.fetchCnt.toNat < ({ exSlot5 with arg0 := 5#32 } : State).arg0.toNat ∧
      exBuilt.ctrl.run = false ∧ (txFault exSlot5).status.txFault = true := by decide

/-- For HoldingHostWaits: waiting, reached, faulted. -/
theorem test_witness_HoldingHostWaits :
    let s := beginHold { exSlot5 with arg0 := 5#32 }
    s.host.holding = true ∧ s.host.stuck = false ∧ s.status.txFault = false ∧
      s.fetchCnt.toNat < s.arg0.toNat ∧ (4#32).toNat ≤ s.fetchCnt.toNat ∧
      (txFault s).status.txFault = true := by decide

/-- For CmdErrorHasNoOtherEffect, WhatCommandsLeaveAlone and CommandsLeaveTheEngineAlone: an effect, and errors
with CMD_ERR clear and with it set. -/
theorem test_witness_commands :
    exec .dmaSetup exStopped = .next exBuilt ∧ exec .txWait exBuilt = .next (cmdError .notRunning exBuilt) ∧
      exec .txWait (cmdError .running exBuilt) =
        .next (cmdError .notRunning (cmdError .running exBuilt)) ∧
      exBuilt.status.cmdErr = false ∧ (cmdError .running exBuilt).status.cmdErr = true :=
  ⟨rfl, rfl, rfl, rfl, rfl⟩

/-- For ConfigWriteRule: running and stopped, and a second register. -/
theorem test_witness_ConfigWriteRule :
    exFirst.ctrl.run = true ∧ exBuilt.ctrl.run = false ∧ CfgReg.txDst .lane0 ≠ .txDst .lane1 := by decide

/-- For RegisterReadsAndIgnoredWrites: a read-only register, an unmapped and an aligned offset. -/
theorem test_witness_RegisterReadsAndIgnoredWrites :
    Reg.symw 3#2 = .symw 3#2 ∧ regAt 0x034#12 = none ∧ regAt 0xFFC#12 = none ∧
      (0xFFC#12).toNat % 4 = 0 := by decide

/-- For BusFaultSticksTheHost: a narrow access, an unaligned one, a stuck HOST. -/
theorem test_witness_BusFaultSticksTheHost :
    ¬ (AccessWidth.byte = .word ∧ (0x008#12).toNat % 4 = 0) ∧
      ¬ (AccessWidth.word = .word ∧ (0x00A#12).toNat % 4 = 0) ∧ (busFault exBuilt).host.stuck = true := by
  decide

/-- For HostMemoryWrite: the last admitted word, bytes just outside it, a byte store, and no store of another core. -/
theorem test_witness_HostMemoryWrite :
    memCanonical exBuilt = true ∧ inWindow exBuilt.params 0x20041FFC#32 = false ∧
      (0x20041FFC#32).toNat % AccessWidth.word.bytes = 0 ∧ 3 < AccessWidth.word.bytes ∧
      0x20041FFB < (0x20041FFC#32).toNat ∧ (0x20041FFC#32).toNat + 4 ≤ 0x20042000 ∧
      memAdmits exBuilt.params 0x20041FFC#32 = true ∧
      (0x20041FFD#32).toNat % AccessWidth.byte.bytes = 0 ∧ inWindow exBuilt.params 0x40000FFF#32 = true ∧
      (0x20041FFD#32).toNat % AccessWidth.half.bytes ≠ 0 := by decide

/-- For CtrlWriteRule: no RUN bit, already running, refused, started. -/
theorem test_witness_CtrlWriteRule :
    (2#32).getLsbD 0 = false ∧ exFirst.ctrl.run = true ∧ (3#32).getLsbD 0 = true ∧
      exStopped.ctrl.run = false ∧ exStopped.status.built = false ∧ exBuilt.ctrl.run = false ∧
      ¬ (exBuilt.status.built = false ∨ vValid exBuilt.timing = false ∨
        (exBuilt.nextList = .active ∧ exBuilt.status.srcValid = false)) := by decide

theorem test_witness_RunStaysSet :
    runAgent .fetcher exFirst = .next (pushWord .lane0 (symw 3#2) exFirst) ∧ Agent.fetcher ≠ .reset ∧
      exFirst.ctrl.run = true := ⟨rfl, by decide, rfl⟩

/-- For FetchReadAppends: lane 0 and lane 1. -/
theorem test_witness_FetchReadAppends :
    fetchEnabled exFirst = true ∧ exFirst.fetcher.fk ≠ .lane2 ∧
      memRead exFirst (exFirst.fetcher.lanes.get exFirst.fetcher.fk).addr = .word (symw 3#2) ∧
      1 ≤ (exFirst.fetcher.lanes.get exFirst.fetcher.fk).rem.toNat ∧
      (pushWord .lane0 (symw 3#2) exFirst).fetcher.fk = .lane1 := by decide

/-- For FetchOutsideAdmitFaults: the word just past MEM_ADMIT. -/
theorem test_witness_FetchOutsideAdmitFaults :
    let s := exRun ⟨.slot3, 1#32, 0x20042000#32, 0xD#32⟩ (blk12 .slot1 1#32 12#32) (blk12 .slot1 1#32 12#32) .lane0 0 0 0
    let addr := (s.fetcher.lanes.get s.fetcher.fk).addr
    fetchEnabled s = true ∧ addr.toNat % 4 = 0 ∧ inWindow s.params addr = false ∧
      memAdmits s.params addr = false := by decide

/-- For EngineWaitsWhereNotEnabled: stopped, faulted, a full FIFO, an empty FIFO. -/
theorem test_witness_EngineWaitsWhereNotEnabled :
    let full := exRun (blk0 .slot0 1#32 8#32) (blk12 .slot0 3#32 8#32) (blk12 .slot0 3#32 8#32) .lane0 8 8 8
    exBuilt.ctrl.run = false ∧ (txFault exFirst).status.txFault = true ∧ full.fetcher.fk = .lane0 ∧
      fifoDepth full.params ≤ (full.fifo.get .lane0).length ∧ exFirst.fifo.get .lane1 = [] := by decide

theorem test_witness_EmitTakesHeads :
    let s := { exFirst with fifo := ⟨[1#32], [2#32], [3#32]⟩ }
    s.ctrl.run = true ∧ s.status.txFault = false ∧ s.fifo = ⟨[1#32], [2#32], [3#32]⟩ := by decide

/-- For EngineIgnoresTimingState: other DST words, a read of system memory, and a blanking read of SYMW3. -/
theorem test_witness_EngineIgnoresTimingState :
    let s := { exFirst with
      fetcher := ⟨⟨⟨.slot3, 1#32, 0x20000000#32, 0xD#32⟩, blk12 .slot1 1#32 12#32, blk12 .slot1 1#32 12#32⟩, .lane0⟩ }
    (∀ (list : LineState) (l : Lane) (b : Slot),
      descAt (buildDesc exParams exTiming ⟨7#32, 8#32, 9#32⟩) list l b =
        { descAt exFirst.desc list l b with
          dst := (descAt (buildDesc exParams exTiming ⟨7#32, 8#32, 9#32⟩) list l b).dst }) ∧
      inWindow s.params (s.fetcher.lanes.get s.fetcher.fk).addr = false ∧
      runAgent .fetcher s = .next (pushWord .lane0 0x0000A500#32 s) ∧ runAgent .emitter s = .next s ∧
      inWindow exFirst.params exFirst.fetcher.lanes.l0.addr = true ∧
      (windowOffset exFirst.fetcher.lanes.l0.addr).toNat = 0x10C ∧
      runAgent .fetcher exFirst = .next (pushWord .lane0 (symw 3#2) exFirst) := by
  refine ⟨?_, rfl, rfl, rfl, rfl, rfl, rfl⟩
  intro list l b
  cases list <;> cases l <;> cases b <;> rfl

/-- For EveryStepKeepsInvariant and InvariantRulesOutEngineFaults: a running engine at the end of a line. -/
theorem test_witness_EveryStepKeepsInvariant :
    Inv exSlot5 ∧ after (step exSlot5) (fun t => t.curList == .frontPorch && t.fetchCnt == 5#32) = true :=
  ⟨exSlot5_inv, by decide⟩

/-- For InvariantRulesOutEngineFaults: the HOST's misaligned memory write, the one stop that is left. -/
theorem test_witness_memWriteMisaligned :
    (hostMemWrite .word 0x20000001#32 0#32 exBuilt = .fault .memWriteMisaligned) ∧
      (HostOp.memWrite .word 0x20000001#32 0#32).wf = false := ⟨rfl, by decide⟩

/-- For LineEventsByPosition: the first word, the end of the inactive period, the last word but one, and the last
word, so each clause at both sides of its boundary; a complete block and one that is not. -/
theorem test_witness_LineEventsByPosition :
    (Inv exSlot1 ∧ Inv exSlot3 ∧ Inv exSlot4 ∧ Inv exSlot5) ∧
      (fetchEnabled exSlot1 && fetchEnabled exSlot3 && fetchEnabled exSlot4 && fetchEnabled exSlot5) = true ∧
      (exSlot1.fetcher.fk = .lane2 ∧ exSlot3.fetcher.fk = .lane2 ∧ exSlot4.fetcher.fk = .lane2 ∧
        exSlot5.fetcher.fk = .lane2) ∧
      (memRead exSlot1 exSlot1.fetcher.lanes.l2.addr = .word (symw 0#2) ∧
        memRead exSlot3 exSlot3.fetcher.lanes.l2.addr = .word (symw 0#2) ∧
        memRead exSlot4 exSlot4.fetcher.lanes.l2.addr = .word (symw 0#2) ∧
        memRead exSlot5 exSlot5.fetcher.lanes.l2.addr = .word (symw 0#2)) ∧
      (laneLeft exSlot1 .lane2 - 1 = 4 ∧ laneLeft exSlot3 .lane2 - 1 = 2 ∧ laneLeft exSlot4 .lane2 - 1 = 1 ∧
        laneLeft exSlot5 .lane2 - 1 = 0 ∧ exSlot3.timing.hActive.toNat / 2 = 2) ∧
      (exSlot1.fetcher.lanes.l0.rem = 0#32 ∧ exSlot1.fetcher.lanes.l1.rem ≠ 0#32) :=
  ⟨⟨exSlot1_inv, exSlot3_inv, exSlot4_inv, exSlot5_inv⟩, by decide, by decide, by decide, by decide, by decide⟩

/-- For OutIsInFetchOrder: lane 0's read of a word, and a lane the read does not concern. -/
theorem test_witness_OutIsInFetchOrder :
    Inv exFirst ∧ runAgent .fetcher exFirst = .next (pushWord .lane0 (symw 3#2) exFirst) ∧
      Agent.fetcher ≠ .reset ∧ fetchEnabled exFirst = true ∧ exFirst.fetcher.fk = .lane0 ∧
      memRead exFirst (exFirst.fetcher.lanes.get .lane0).addr = .word (symw 3#2) ∧
      exFirst.fetcher.fk ≠ .lane1 := ⟨exFirst_inv, rfl, by decide, rfl, rfl, rfl, by decide⟩

/-- For BlankingWordsByPosition, on either side of each bound (H_SYNC/2 + H_BP/2 + H_ACTIVE/2 = 4, H_BP/2 + H_ACTIVE/2
= 3, H_ACTIVE/2 = 2): lanes 0 and 2 of a blanking list with 5 words left, lane 0 with 4 (the pulse), 3 and 2, and lane
0 of the Active list with 3 left. -/
theorem test_witness_BlankingWordsByPosition :
    (Inv exFirst ∧ Inv exPulse ∧ Inv exPorch ∧ Inv exLast ∧ Inv exActive) ∧
      (exFirst.ctrl.run && exPulse.ctrl.run && exPorch.ctrl.run && exLast.ctrl.run && exActive.ctrl.run) = true ∧
      (∀ s ∈ [exFirst, exPulse, exPorch, exLast, exActive], laneAhead s.fetcher.fk .lane0 = 0 ∧
        laneAhead s.fetcher.fk .lane2 = 0) ∧
      [exFirst, exPulse, exPorch, exLast, exActive].map (fun s => laneLeft s .lane0) = [5, 4, 3, 2, 3] ∧
      (exFirst.curList ≠ .active ∧ exPulse.curList ≠ .active ∧ exPorch.curList ≠ .active ∧
        exLast.curList ≠ .active) ∧
      exActive.curList = .active ∧ exActive.timing.hActive.toNat / 2 < laneLeft exActive .lane0 :=
  ⟨⟨exFirst_inv, exPulse_inv, exPorch_inv, exLast_inv, exActive_inv⟩, by decide, by decide, by decide, by decide,
    by decide, by decide⟩

/-- For WaitIrqRule: the interrupt pending and enabled, and not. -/
theorem test_witness_WaitIrqRule :
    let s := { exFirst with host := ⟨[.waitIrq], false, false, 0#32⟩ }
    s.host.stuck = false ∧ s.host.holding = false ∧ s.host.program = [.waitIrq] ∧
      s.status.lineIrq = false ∧ s.ctrl.irqEn = true ∧ (flagLineIrq s.status).lineIrq = true := by decide

end Sys2Proof.Tests
end

/-! ## The register window -/

namespace Sys2Proof.Machine

/-! ### Numbers of lines, lanes, slots and words -/

theorem lineStateOfBits_lineStateBits (list : LineState) : lineStateOfBits (lineStateBits list) = list := by
  cases list <;> rfl

theorem lineStateBits_lineStateOfBits : ∀ b : BitVec 2, lineStateBits (lineStateOfBits b) = b := by decide

theorem laneOfNat_laneNumber (l : Lane) : laneOfNat (laneNumber l) = l := by cases l <;> rfl

theorem slotOfNat_slotNumber (b : Slot) : slotOfNat (slotNumber b) = b := by cases b <;> rfl

theorem descWordOfNat_descWordNumber (w : DescWord) : descWordOfNat (descWordNumber w) = w := by cases w <;> rfl

theorem laneNumber_laneOfNat : ∀ n < 3, laneNumber (laneOfNat n) = n := by decide

theorem slotNumber_slotOfNat : ∀ n < 4, slotNumber (slotOfNat n) = n := by decide

theorem descWordNumber_descWordOfNat : ∀ n < 4, descWordNumber (descWordOfNat n) = n := by decide

theorem laneNumber_lt (l : Lane) : laneNumber l < 3 := by cases l <;> decide

theorem slotNumber_lt (b : Slot) : slotNumber b < 4 := by cases b <;> decide

theorem descWordNumber_lt (w : DescWord) : descWordNumber w < 4 := by cases w <;> decide

/-! ### DESC's offsets (R40) -/

/-- The distance of a descriptor word from 0x400 (R40). -/
def descDistance (list : LineState) (l : Lane) (b : Slot) (w : DescWord) : Nat :=
  0xC0 * (lineStateBits list).toNat + 0x40 * laneNumber l + 0x10 * slotNumber b + 4 * descWordNumber w

theorem descDistance_lt (list : LineState) (l : Lane) (b : Slot) (w : DescWord) : descDistance list l b w < 0x300 := by
  have h1 := (lineStateBits list).isLt
  have h2 := laneNumber_lt l
  have h3 := slotNumber_lt b
  have h4 := descWordNumber_lt w
  unfold descDistance
  omega

theorem regOffset_desc_toNat (list : LineState) (l : Lane) (b : Slot) (w : DescWord) :
    (regOffset (.desc list l b w)).toNat = 0x400 + descDistance list l b w := by
  have h := descDistance_lt list l b w
  simp only [regOffset, BitVec.toNat_ofNat, descDistance] at h ⊢
  omega

/-- Each word's distance gives back its list, lane, slot and word. -/
theorem descReg_descDistance (list : LineState) (l : Lane) (b : Slot) (w : DescWord) :
    descReg (descDistance list l b w) = .desc list l b w := by
  have h1 := (lineStateBits list).isLt
  have h2 := laneNumber_lt l
  have h3 := slotNumber_lt b
  have h4 := descWordNumber_lt w
  have d1 : descDistance list l b w / 0xC0 = (lineStateBits list).toNat := by unfold descDistance; omega
  have d2 : descDistance list l b w % 0xC0 / 0x40 = laneNumber l := by unfold descDistance; omega
  have d3 : descDistance list l b w % 0x40 / 0x10 = slotNumber b := by unfold descDistance; omega
  have d4 : descDistance list l b w % 0x10 / 4 = descWordNumber w := by unfold descDistance; omega
  rw [descReg, d1, d2, d3, d4, BitVec.ofNat_toNat, BitVec.setWidth_eq, lineStateOfBits_lineStateBits,
    laneOfNat_laneNumber, slotOfNat_slotNumber, descWordOfNat_descWordNumber]

/-- Each distance that is a multiple of 4 is that of the word it stands for. -/
theorem regOffset_descReg {n : Nat} (h : n < 0x300) (h4 : n % 4 = 0) :
    regOffset (descReg n) = BitVec.ofNat 12 (0x400 + n) := by
  have d1 := lineStateBits_lineStateOfBits (BitVec.ofNat 2 (n / 0xC0))
  have d2 := laneNumber_laneOfNat (n % 0xC0 / 0x40) (by omega)
  have d3 := slotNumber_slotOfNat (n % 0x40 / 0x10) (by omega)
  have d4 := descWordNumber_descWordOfNat (n % 0x10 / 4) (by omega)
  rw [descReg, regOffset, d1, d2, d3, d4, BitVec.toNat_ofNat]
  congr 1
  omega

/-! ### The map (R71) -/

theorem regAt_of_desc {off : Offset} (h : 0x400 ≤ off.toNat) (h' : off.toNat < 0x700) (h4 : off.toNat % 4 = 0) :
    regAt off = some (descReg (off.toNat - 0x400)) := by
  rw [regAt, if_pos ⟨h, h'⟩, if_pos h4]

theorem regAt_of_not_desc {off : Offset} (h : ¬ (0x400 ≤ off.toNat ∧ off.toNat < 0x700)) :
    regAt off = regTable.lookup off.toNat := by
  rw [regAt, if_neg h]

/-- Every register stands at its offset. -/
theorem regAt_regOffset (r : Reg) : regAt (regOffset r) = some r := by
  cases r with
  | cfg r => cases r with
    | txDst l => cases l <;> rfl
    | _ => rfl
  | symw c => revert c; decide
  | desc list l b w =>
    have hn := regOffset_desc_toNat list l b w
    have hlt := descDistance_lt list l b w
    have h4 : descDistance list l b w % 4 = 0 := by unfold descDistance; omega
    rw [regAt_of_desc (by omega) (by omega) (by omega), hn, Nat.add_sub_cancel_left, descReg_descDistance]
  | _ => rfl

theorem regTable_offsets : ∀ e ∈ regTable, regOffset e.2 = BitVec.ofNat 12 e.1 := by decide

/-- A register stands at its own offset only. -/
theorem regOffset_of_regAt {off : Offset} {r : Reg} (h : regAt off = some r) : regOffset r = off := by
  have hoff : off = BitVec.ofNat 12 off.toNat := by simp
  by_cases hd : 0x400 ≤ off.toNat ∧ off.toNat < 0x700
  · rw [regAt, if_pos hd] at h
    split at h
    · next h4 =>
      cases h
      rw [regOffset_descReg (by omega) (by omega), Nat.add_sub_cancel' hd.1, ← hoff]
    · cases h
  · rw [regAt_of_not_desc hd] at h
    rw [hoff]
    obtain ⟨before, after, htable, -⟩ := List.lookup_eq_some_iff.mp h
    exact regTable_offsets (off.toNat, r) (by rw [htable]; exact List.mem_append_cons_self)

/-- Where the registers below DESC stand: three runs of words. -/
theorem regTable_keys :
    regTable.map Prod.fst = List.range' 0x000 13 4 ++ List.range' 0x040 13 4 ++ List.range' 0x100 4 4 := by decide

/-- The offsets of a run of `k` words from `a`. -/
theorem mem_wordRun {n a k : Nat} : n ∈ List.range' a k 4 ↔ a ≤ n ∧ n < a + 4 * k ∧ (n - a) % 4 = 0 := by
  rw [List.mem_range']
  exact ⟨fun ⟨i, hi, he⟩ => by omega, fun h => ⟨(n - a) / 4, by omega, by omega⟩⟩

theorem regAt_eq_none_iff (off : Offset) : regAt off = none ↔
    off.toNat % 4 ≠ 0 ∨ (0x034 ≤ off.toNat ∧ off.toNat < 0x040) ∨ (0x074 ≤ off.toNat ∧ off.toNat < 0x100) ∨
      (0x110 ≤ off.toNat ∧ off.toNat < 0x400) ∨ 0x700 ≤ off.toNat := by
  by_cases hd : 0x400 ≤ off.toNat ∧ off.toNat < 0x700
  · rw [regAt, if_pos hd]
    split <;> simp <;> omega
  · have hkeys : regTable.lookup off.toNat = none ↔ off.toNat ∉ regTable.map Prod.fst := by
      simp only [List.lookup_eq_none_iff, List.mem_map, not_exists, not_and, bne_iff_ne]
      exact forall₂_congr fun e _ => ne_comm
    rw [regAt_of_not_desc hd, hkeys, regTable_keys, List.mem_append, List.mem_append, mem_wordRun, mem_wordRun,
      mem_wordRun]
    omega

/-- Settles O42: every register stands at its offset, and DESC's block and the three runs of words below it are all
that is mapped. -/
theorem registerMap : Obligations.RegisterMap := by
  refine ⟨fun e he => ?_, regAt_regOffset, regAt_eq_none_iff⟩
  have hoff : regOffset e.2 = e.1 := by revert e; decide
  exact ⟨hoff ▸ regAt_regOffset e.2, hoff⟩

end Sys2Proof.Machine

namespace Sys2Proof.Machine

/-! ### Reads (R75) -/

theorem regRead_regOffset (s : State) (r : Reg) : regRead s (regOffset r) = readReg s r := by
  rw [regRead, regAt_regOffset]

theorem regRead_unmapped {off : Offset} (h : regAt off = none) (s : State) : regRead s off = 0#32 := by
  rw [regRead, h]

/-- Settles O43: the four words of a slot stand at its base and the three words after it. -/
theorem descriptorOffsets : Obligations.DescriptorOffsets := fun s list l b =>
  ⟨regRead_regOffset s (.desc list l b .src), regRead_regOffset s (.desc list l b .dst),
    regRead_regOffset s (.desc list l b .count), regRead_regOffset s (.desc list l b .dctrl)⟩

/-- An address is in the window exactly where its page is P_BASE's (R70). -/
theorem inWindow_iff (p : Params) (addr : Word) : inWindow p addr = true ↔ addr.toNat / 0x1000 = p.basePage.toNat := by
  have hlt := addr.isLt
  rw [inWindow, beq_iff_eq, ← BitVec.toNat_inj, BitVec.extractLsb'_toNat, Nat.shiftRight_eq_div_pow]
  omega

theorem windowOffset_toNat (addr : Word) : (windowOffset addr).toNat = addr.toNat % 0x1000 := by
  rw [windowOffset, BitVec.extractLsb'_toNat, Nat.shiftRight_zero]

theorem inWindow_symAddr (p : Params) (i : BitVec 2) : inWindow p (symAddr p i) = true := by
  have hb := pBase_toNat p
  have ha := symAddr_toNat p i
  rw [inWindow_iff]
  omega

theorem windowOffset_symAddr (p : Params) (i : BitVec 2) : windowOffset (symAddr p i) = regOffset (.symw i) := by
  have hb := pBase_toNat p
  have ha := symAddr_toNat p i
  apply BitVec.eq_of_toNat_eq
  rw [windowOffset_toNat, regOffset, BitVec.toNat_ofNat]
  omega

/-- Settles O27: a symbol address is in the window, at the offset of its SYMW register. -/
theorem symbolAddressesReadSymbolWords : Obligations.SymbolAddressesReadSymbolWords := by
  refine fun s i => ⟨symAddr_toNat s.params i, ?_⟩
  rw [memRead, symAddr_aligned, inWindow_symAddr, windowOffset_symAddr, regRead_regOffset]
  rfl

/-! ### CTRL, STATUS and line-states as words (R25, R26, R28) -/

theorem getLsbD_ctrlWord (c : Ctrl) (i : Nat) : (ctrlWord c).getLsbD i = (match i with
    | 0 => c.run
    | 1 => c.irqEn
    | _ => false) := by
  unfold ctrlWord
  iterate 2 rw [BitVec.getLsbD_append]
  match i with
  | 0 | 1 => simp
  | i + 2 => simp

theorem getLsbD_statusWord (st : Status) (i : Nat) : (statusWord st).getLsbD i = (match i with
    | 0 => st.lineIrq
    | 1 => st.missed
    | 2 => st.irqOvr
    | 3 => st.unbal
    | 4 => st.cmdErr
    | 5 => st.txFault
    | 6 => st.built
    | 7 => st.srcValid
    | k =>
      if k < 16 then st.errCause.getLsbD (k - 8)
      else if k < 24 then st.txFaultCause.getLsbD (k - 16)
      else false) := by
  unfold statusWord
  iterate 10 rw [BitVec.getLsbD_append]
  match i with
  | 0 | 1 | 2 | 3 | 4 | 5 | 6 | 7 => simp
  | i + 8 =>
    have herr : i + 8 < 16 ↔ i < 8 := by omega
    have hfault : i + 8 < 24 ↔ i - 8 < 8 := by omega
    simp [Nat.sub_sub, herr, hfault]

/-- The number of a line-state as a register gives it (R28). -/
theorem lineStateWord (x : LineState) : (lineStateBits x).setWidth 32 = (match x with
    | .frontPorch => 0#32
    | .sync => 1#32
    | .backPorch => 2#32
    | .active => 3#32) := by
  cases x <;> rfl

/-! ### Writes (R76) -/

theorem regWrite_regOffset (r : Reg) (v : Word) (s : State) : regWrite (regOffset r) v s = writeReg r v s := by
  rw [regWrite, regAt_regOffset]

theorem regWrite_unmapped {off : Offset} (h : regAt off = none) (v : Word) (s : State) :
    regWrite off v s = .next s := by
  rw [regWrite, h]

/-- The registers a HOST write leaves alone (R22, R23, R28 to R33, R39, R40). -/
theorem writeReg_readOnly {r : Reg} (h : r = .res0 ∨ r = .res1 ∨ r = .vstate ∨ r = .vctr ∨ r = .nextList ∨
    r = .curList ∨ r = .wordCnt ∨ r = .fetchCnt ∨ (∃ c, r = .symw c) ∨ (∃ q l b w, r = .desc q l b w))
    (v : Word) (s : State) : writeReg r v s = .next s := by
  rcases h with rfl | rfl | rfl | rfl | rfl | rfl | rfl | rfl | ⟨c, rfl⟩ | ⟨q, l, b, w, rfl⟩ <;> rfl

theorem hostRead_word {off : Offset} (h : off.toNat % 4 = 0) (s : State) :
    hostRead .word off s = { s with host := { s.host with lastRead := regRead s off } } := by
  simp [hostRead, windowAccessOk, h]

/-- Settles O39: `x && !b` is the flag cleared where the bit is set. -/
theorem statusWriteClears : Obligations.StatusWriteClears := by
  intro s v
  refine (regWrite_regOffset .status v s).trans ?_
  have hclear : ∀ x b : Bool, (x && !b) = if b = true then false else x := by decide
  simp only [writeReg, writeStatus, statusAfterWrite, hclear]

/-! ### Configuration registers (R34 to R38) -/

/-- A word cut to its low `n` bits is the word masked to them. -/
theorem setWidth_setWidth_eq_and (v : Word) (n : Nat) :
    (v.setWidth n).setWidth 32 = v &&& BitVec.ofNat 32 (2 ^ n - 1) := by
  refine BitVec.eq_of_getLsbD_eq fun i hi => ?_
  rw [BitVec.getLsbD_setWidth, BitVec.getLsbD_setWidth, BitVec.getLsbD_and, BitVec.getLsbD_ofNat,
    Nat.testBit_two_pow_sub_one, decide_eq_true hi, Bool.true_and, Bool.true_and, Bool.and_comm]

theorem readCfg_storeCfg_self (r : CfgReg) (v : Word) (s : State) :
    readCfg (storeCfg r v s) r = (match r with
      | .bitClkKhz => v
      | .txDst _ => v
      | .pol => v &&& 0x3#32
      | _ => v &&& 0xFFFF#32) := by
  cases r with
  | bitClkKhz => rfl
  | txDst l => exact Lanes.get_set_self ..
  | pol => exact setWidth_setWidth_eq_and v 2
  | _ => exact setWidth_setWidth_eq_and v 16

theorem readCfg_storeCfg_ne {r q : CfgReg} (h : q ≠ r) (v : Word) (s : State) :
    readCfg (storeCfg r v s) q = readCfg s q := by
  cases r with
  | txDst l => cases q with
    | txDst k => exact Lanes.get_set_ne _ _ fun hk => h (hk ▸ rfl)
    | _ => rfl
  | _ => cases q <;> first | rfl | exact absurd rfl h

/-- Settles O40: the stored field reads back, no other field moves, and the flags follow `clearsBuilt`. -/
theorem configWriteRule : Obligations.ConfigWriteRule := by
  intro r v s
  have hw : regWrite (cfgOffset r) v s = .next (writeCfg r v s) := regWrite_regOffset (.cfg r) v s
  rcases writeCfg_cases r v s with ⟨hr, e⟩ | ⟨hr, e⟩
  · exact ⟨fun _ => by rw [hw, e], fun hs => by simp [hr] at hs⟩
  refine ⟨fun hs => by simp [hr] at hs, fun _ => ⟨writeCfg r v s, hw, ?_, ?_, fun q hq => ?_, ?_⟩⟩ <;> rw [e]
  · conv_lhs => rw [storeCfg_eq]
  · exact readCfg_storeCfg_self r v s
  · exact readCfg_storeCfg_ne hq v s
  · cases r <;> rfl

/-- Settles O41: each offset is its register's, so a read gives the register and a write reaches it. -/
theorem registerReadsAndIgnoredWrites : Obligations.RegisterReadsAndIgnoredWrites := by
  refine ⟨fun s => ?_, fun s v => ⟨regWrite_regOffset .arg0 v s, regWrite_regOffset .arg1 v s, fun r hr => ?_,
    fun off h => regWrite_unmapped h v s⟩, fun s off h => hostRead_word h s, fun s off h => regRead_unmapped h s⟩
  · have hread := regRead_regOffset s
    refine ⟨fun i => (congrArg (BitVec.getLsbD · i) (hread .ctrl)).trans (getLsbD_ctrlWord s.ctrl i),
      fun i => (congrArg (BitVec.getLsbD · i) (hread .status)).trans (getLsbD_statusWord s.status i),
      hread .cmd, hread .arg0, hread .arg1, hread .res0, hread .res1, (hread .vstate).trans (lineStateWord _),
      hread .vctr, (hread .nextList).trans (lineStateWord _), (hread .curList).trans (lineStateWord _),
      hread .wordCnt, hread .fetchCnt, hread (.cfg .hFp), hread (.cfg .hSync), hread (.cfg .hBp),
      hread (.cfg .hActive), hread (.cfg .vFp), hread (.cfg .vSync), hread (.cfg .vBp), hread (.cfg .vActive),
      hread (.cfg .pol), hread (.cfg .bitClkKhz), hread (.cfg (.txDst .lane0)), hread (.cfg (.txDst .lane1)),
      hread (.cfg (.txDst .lane2)), hread (.symw 0#2), hread (.symw 1#2),
      hread (.symw 2#2), hread (.symw 3#2)⟩
  · rw [regWrite_regOffset]; exact writeReg_readOnly hr v s

end Sys2Proof.Machine

/-! ## The invariant: what it reads, and that every step keeps it -/

namespace Sys2Proof.Machine

/-! ### Steps the invariant does not notice -/

/-- The two states differ at most in what the invariant does not read: the agenda, the HOST (a hold may end, but
none may begin), IRQ_EN, the reporting flags, the argument and result registers, the timing position and ARMED. -/
def sameForInv (s t : State) : Prop :=
  t = { s with
    agenda := t.agenda
    host := t.host
    ctrl := { s.ctrl with irqEn := t.ctrl.irqEn }
    status := { s.status with
      lineIrq := t.status.lineIrq
      missed := t.status.missed
      irqOvr := t.status.irqOvr
      unbal := t.status.unbal }
    arg0 := t.arg0
    arg1 := t.arg1
    res0 := t.res0
    res1 := t.res1
    vstate := t.vstate
    vctr := t.vctr
    armed := t.armed } ∧
  (t.host.holding = true → s.host.holding = true)

theorem Inv.of_same {s t : State} (h : Inv s) (e : sameForInv s t) : Inv t := by
  obtain ⟨ht, hold⟩ := e
  rw [ht]
  exact
    { mem := { h.mem with }
      flags := { h.flags with hold_run := fun hh => h.flags.hold_run (hold hh) }
      chain := { h.chain with }
      engine := { h.engine with block := fun hr l => { h.engine.block hr l with } } }

/-! ### CmdError, TxFault and STATUS writes -/

theorem Inv.cmdError {s : State} (h : Inv s) (c : CmdCause) : Inv (cmdError c s) where
  mem := { h.mem with }
  flags := { h.flags with err_cause := fun hc => Bool.noConfusion hc }
  chain := { h.chain with }
  engine := { h.engine with block := fun hr l => { h.engine.block hr l with } }

theorem Inv.txFault {s : State} (h : Inv s) (hr : s.ctrl.run = true) : Inv (txFault s) where
  mem := { h.mem with }
  flags := { h.flags with fault_run := fun _ => hr, fault_cause := rfl }
  chain := { h.chain with }
  engine := { h.engine with block := fun hr l => { h.engine.block hr l with } }

theorem Inv.writeStatus {s : State} (h : Inv s) (v : Word) : Inv (writeStatus v s) where
  mem := { h.mem with }
  flags := { h.flags with
    err_cause := fun hc => by
      simp only [writeStatus_status, statusAfterWrite_cmdErr, statusAfterWrite_errCause] at hc ⊢
      cases hv : v.getLsbD 4 with
      | true => rfl
      | false => exact h.flags.err_cause (by simpa only [hv, Bool.not_false, Bool.and_true] using hc) }
  chain := { h.chain with }
  engine := { h.engine with block := fun hr l => { h.engine.block hr l with } }

/-! ### Memory writes -/

/-- Every byte of an aligned access lies on the page of its address, so in the window or outside it with it (R70). -/
theorem inWindow_within_access {p : Params} {width : AccessWidth} {addr : Word} {a : Nat}
    (ha : addr.toNat % width.bytes = 0) (h1 : addr.toNat ≤ a) (h2 : a < addr.toNat + width.bytes) :
    inWindow p (BitVec.ofNat 32 a) = inWindow p addr := by
  have hlt := addr.isLt
  have hpage : (BitVec.ofNat 32 a).extractLsb' 12 20 = addr.extractLsb' 12 20 := by
    apply BitVec.eq_of_toNat_eq
    simp only [BitVec.extractLsb'_toNat, BitVec.toNat_ofNat, Nat.shiftRight_eq_div_pow]
    cases width <;> simp only [AccessWidth.bytes] at ha h2 <;> omega
  rw [inWindow, inWindow, hpage]

theorem Inv.storeMem {s : State} (h : Inv s) {width : AccessWidth} {addr : Word} (v : Word)
    (hw : inWindow s.params addr = false) (ha : addr.toNat % width.bytes = 0) :
    Inv (storeMem width addr v s) where
  mem :=
    { canonical := memCanonical_storeMem v h.mem.canonical ha
      outside := fun c hc => by
        rcases mem_storeMem hc with hold | ⟨h1, h2⟩
        · exact h.mem.outside c hold
        · exact (inWindow_within_access ha h1 h2).trans hw }
  flags := { h.flags with }
  chain := { h.chain with }
  engine := { h.engine with block := fun hr l => { h.engine.block hr l with } }

/-! ### Configuration writes -/

/-- A stopped machine's engine invariant speaks of OUT, the FIFOs and the counters only. -/
theorem EngineInv.of_stopped {s t : State} (h : EngineInv s) (hs : s.ctrl.run = false) (ht : t.ctrl.run = false)
    (hout : t.out = s.out) (hfifo : t.fifo = s.fifo) (hfetch : t.fetchCnt = s.fetchCnt)
    (hword : t.wordCnt = s.wordCnt) : EngineInv t where
  left_pos hr := by simp [ht] at hr
  lockstep hr := by simp [ht] at hr
  block hr := by simp [ht] at hr
  unread hr := by simp [ht] at hr
  read hr := by simp [ht] at hr
  fifo_equal hr := by simp [ht] at hr
  fifo_bound hr := by simp [ht] at hr
  fetched hr := by simp [ht] at hr
  emitted := by rw [hword, hout]; exact h.emitted
  stopped _ := by rw [hout, hfifo, hfetch, hword]; exact h.stopped hs

/-- A register whose write leaves BUILT alone is a field that neither H_VALID nor the chain builder reads (R38). -/
theorem storeCfg_of_keepsBuilt {r : CfgReg} (hr : clearsBuilt r = false) (v : Word) (s : State) :
    (storeCfg r v s).txDst = s.txDst ∧ hValid (storeCfg r v s).timing = hValid s.timing ∧
      ∀ p dst, buildDesc p (storeCfg r v s).timing dst = buildDesc p s.timing dst := by
  cases r <;> first | exact ⟨rfl, rfl, fun _ _ => rfl⟩ | cases hr

theorem Inv.writeCfg {s : State} (h : Inv s) (r : CfgReg) (v : Word) : Inv (writeCfg r v s) := by
  rcases writeCfg_cases r v s with ⟨-, e⟩ | ⟨hs, e⟩
  · rw [e]; exact h.cmdError _
  rw [e, storeCfg_eq]
  have hstop : ¬ s.ctrl.run = true := by simp [hs]
  cases hc : clearsBuilt r with
  | true =>
    refine ⟨{ h.mem with }, ?_, ?_, h.engine.of_stopped hs hs rfl rfl rfl rfl⟩
    · exact { h.flags with
        run_built := fun hr => absurd hr hstop
        run_valid := fun hr => absurd hr hstop
        built_valid := fun hb => Bool.noConfusion hb
        src_built := fun hb => Bool.noConfusion hb
        next_active := fun hr => absurd hr hstop
        cur_active := fun hr => absurd hr hstop }
    · exact
        { built := fun hb => Bool.noConfusion hb
          aligned := fun hb => Bool.noConfusion hb
          unset := fun hb => Bool.noConfusion hb }
  | false =>
    obtain ⟨hdst, hvalid, hbuild⟩ := storeCfg_of_keepsBuilt hc v s
    refine ⟨{ h.mem with }, ?_, ?_, h.engine.of_stopped hs hs rfl rfl rfl rfl⟩
    · exact { h.flags with
        run_valid := fun hr => absurd hr hstop
        built_valid := fun hb => hvalid.trans (h.flags.built_valid hb) }
    · exact { h.chain with
        built := fun hb => by
          show s.desc = patchDesc (buildDesc s.params _ _) _ _ _
          rw [hdst, hbuild]
          exact h.chain.built hb }

/-! ### The lists a line is loaded from -/

/-- A chain ready to be loaded: every list as DMA_SETUP builds it, and every SRC word aligned (R193, R198, R200). -/
structure LoadableDesc (d : DescRam) (t : Timing) : Prop extends BuiltDesc d t where
  src_aligned : ∀ list l b, wordAligned (descAt d list l b).src = true

theorem patchDesc_loadable {p : Params} {t : Timing} {dst : Lanes Word} (hv : hValid t = true) {a0 a1 a2 : Word}
    (ha : ∀ l, wordAligned ((⟨a0, a1, a2⟩ : Lanes Word).get l) = true) :
    LoadableDesc (patchDesc (buildDesc p t dst) a0 a1 a2) t where
  toBuiltDesc := (buildDesc_built p t dst hv).patch a0 a1 a2
  src_aligned list l b := by
    rw [descAt_patchDesc]
    split
    · exact ha l
    · exact buildDesc_src_aligned p t dst list l b

theorem Inv.loadable {s : State} (h : Inv s) (hb : s.status.built = true) : LoadableDesc s.desc s.timing := by
  rw [h.chain.built hb]
  exact patchDesc_loadable (h.flags.built_valid hb) fun l => by
    have := h.chain.aligned hb l
    cases l <;> exact this

/-! ### Loading a line (R220, R226) -/

theorem slotUsed_slot0 (l : Lane) : slotUsed l .slot0 = true := by cases l <;> rfl

/-- A block just loaded from a used slot of the current list is a copy of it. -/
theorem blockInv_of_snapshot {s : State} {l : Lane} {b : Slot}
    (hs : s.fetcher.lanes.get l = snapshot s.desc s.curList l b) (hb : slotUsed l b = true)
    (ha : wordAligned (descAt s.desc s.curList l b).src = true) : BlockInv s l := by
  constructor <;> rw [hs]
  · exact hb
  · rfl
  · exact le_rfl
  · exact ha
  · exact fun _ => rfl

/-- The line's start: slot 0 of the current list in flight on every lane, and lane 0 next. -/
def atLineStart (s : State) : Prop := s.fetcher = ⟨loadFirstSlots s.desc s.curList, .lane0⟩

theorem atLineStart.block {s : State} (e : atLineStart s) (l : Lane) :
    s.fetcher.lanes.get l = snapshot s.desc s.curList l .slot0 := by
  rw [e]; exact loadFirstSlots_get ..

/-- At the line's start every lane has the whole line left (R198). -/
theorem atLineStart.laneLeft {s : State} {t : Timing} (e : atLineStart s) (hd : BuiltDesc s.desc t) (l : Lane) :
    laneLeft s l = lineWords t := by
  rw [Machine.laneLeft, e.block l]
  exact hd.words s.curList l

theorem laneAhead_lane0 (l : Lane) : laneAhead .lane0 l = 0 := by cases l <;> rfl

/-- Between two fetch slots: the FIFOs are level and within their depth, and the counters count (R222, R272). -/
structure SlotBoundary (s : State) : Prop where
  lane0_next : s.fetcher.fk = .lane0
  level : ∀ l, (s.fifo.get l).length = (s.fifo.get .lane2).length
  room : (s.fifo.get .lane2).length ≤ fifoDepth s.params
  fetched : s.fetchCnt = s.wordCnt + BitVec.ofNat 32 (s.fifo.get .lane2).length
  emitted : s.wordCnt = BitVec.ofNat 32 s.out.length

/-- Between two fetch slots the engine's invariant asks that every lane's block is a copy of its slot with words left,
and that the lanes are level in the line. -/
theorem SlotBoundary.engineInv {s : State} {n : Nat} (h : SlotBoundary s) (hr : s.ctrl.run = true) (hn : n ≠ 0)
    (hleft : ∀ l, Machine.laneLeft s l = n) (hblock : ∀ l, BlockInv s l)
    (hrem : ∀ l, 1 ≤ (s.fetcher.lanes.get l).rem.toNat) : EngineInv s := by
  have hahead : ∀ l, laneAhead s.fetcher.fk l = 0 := fun l => by
    rw [h.lane0_next, laneAhead_lane0]
  exact
    { left_pos := fun _ => by rw [hleft]; omega
      lockstep := fun _ l => by rw [hahead, hleft, hleft, Nat.add_zero]
      block := fun _ => hblock
      unread := fun _ l _ => hrem l
      read := fun _ l hl => by simp [hahead] at hl
      fifo_equal := fun _ l => by rw [hahead, h.level, Nat.add_zero]
      fifo_bound := fun _ l => by rw [h.level]; exact h.room
      fetched := fun _ => h.fetched
      emitted := h.emitted
      stopped := fun hf => by simp [hr] at hf }

theorem atLineStart.engineInv {s : State} {t : Timing} (e : atLineStart s) (h : SlotBoundary s)
    (hd : LoadableDesc s.desc t) (hr : s.ctrl.run = true) : EngineInv s := by
  have hcount : ∀ l, 1 ≤ (s.fetcher.lanes.get l).rem.toNat := fun l => by
    rw [e.block l]; exact hd.count_pos s.curList l .slot0 (slotUsed_slot0 l)
  have hleft := e.laneLeft hd.toBuiltDesc
  have hpos : lineWords t ≠ 0 := by
    rw [← hleft .lane0]
    exact Nat.ne_of_gt ((hcount .lane0).trans (Nat.le_add_right ..))
  exact h.engineInv hr hpos hleft
    (fun l => blockInv_of_snapshot (e.block l) (slotUsed_slot0 l) (hd.src_aligned ..)) hcount

/-! ### CTRL writes -/

theorem Inv.startEngine {s : State} (h : Inv s) (hs : s.ctrl.run = false) (hb : s.status.built = true)
    (hv : vValid s.timing = true) (hn : s.nextList = .active → s.status.srcValid = true) :
    Inv (startEngine s) where
  mem := { h.mem with }
  flags := { h.flags with
    run_built := fun _ => hb
    run_valid := fun _ => hv
    next_active := fun _ => hn
    cur_active := fun _ => hn
    fault_run := fun _ => rfl
    hold_run := fun _ => rfl }
  chain := { h.chain with }
  engine := by
    obtain ⟨hout, -, -, -⟩ := h.engine.stopped hs
    have hlevel : SlotBoundary (Machine.startEngine s) :=
      { lane0_next := rfl
        level := fun l => by cases l <;> rfl
        room := Nat.zero_le _
        fetched := rfl
        emitted := by rw [startEngine_out, hout]; rfl }
    exact atLineStart.engineInv rfl hlevel (h.loadable hb) rfl

theorem Inv.writeCtrl {s : State} (h : Inv s) (v : Word) : Inv (writeCtrl v s) := by
  have he : Inv (setIrqEn (v.getLsbD 1) s) := h.of_same ⟨rfl, id⟩
  rcases writeCtrl_cases v s with e | ⟨-, e⟩ | ⟨hs, hb, hv, hn, e⟩ <;> rw [e]
  · exact he
  · exact he.cmdError _
  · exact he.startEngine hs hb hv hn

/-! ### Commands -/

theorem Inv.dmaSetup {s : State} (h : Inv s) (hs : s.ctrl.run = false) (hv : hValid s.timing = true) :
    Inv { s with desc := buildDesc s.params s.timing s.txDst, status := flagBuilt s.status } where
  mem := { h.mem with }
  flags := { h.flags with
    run_built := fun _ => rfl
    built_valid := fun _ => hv
    src_built := fun _ => rfl
    next_active := fun hr => by simp [hs] at hr
    cur_active := fun hr => by simp [hs] at hr }
  chain :=
    { built := fun _ => rfl
      aligned := fun _ l => by cases l <;> rfl
      unset := fun _ _ l => by cases l <;> rfl }
  engine := h.engine.of_stopped hs hs rfl rfl rfl rfl

/-- The patched SRC words are aligned where the buffer pointer is (R200). -/
theorem patchSrc_aligned {ptr : Word} (hp : wordAligned ptr = true) (stride : Word) (l : Lane) :
    wordAligned ((⟨ptr, ptr + 4#32 * stride, ptr + 8#32 * stride⟩ : Lanes Word).get l) = true := by
  simp only [wordAligned, beq_iff_eq] at hp ⊢
  cases l <;> simp only [Lanes.get, BitVec.toNat_add, BitVec.toNat_mul, BitVec.toNat_ofNat] <;> omega

/-- The patch leaves a block in flight a copy of its slot: the SRC words it changes are those of slots that step
their address (R193, R194). -/
theorem BlockInv.patchActive {s : State} {t : Timing} {l : Lane} (h : BlockInv s l) (hd : BuiltDesc s.desc t)
    (ptr stride : Word) : BlockInv (patchActive ptr stride s) l where
  used := h.used
  dctrl := h.dctrl.trans (descAt_patchDesc_dctrl ..).symm
  count := h.count.trans (congrArg BitVec.toNat (descAt_patchDesc_count ..)).ge
  aligned := h.aligned
  repeats hn := by
    have hincr := hd.incr s.curList l _ h.used
    rw [← h.dctrl, show dctrlIncr (s.fetcher.lanes.get l).dc = false from hn, eq_comm, decide_eq_false_iff_not]
      at hincr
    have hsrc := descAt_patchDesc s.desc ptr (ptr + 4#32 * stride) (ptr + 8#32 * stride) s.curList l
      (s.fetcher.lanes.get l).slot
    rw [if_neg hincr] at hsrc
    exact (h.repeats hn).trans (congrArg Descriptor.src hsrc.symm)

theorem laneLeft_patchActive (ptr stride : Word) (s : State) (l : Lane) :
    laneLeft (patchActive ptr stride s) l = laneLeft s l := by
  simp only [laneLeft, patchActive_fetcher, patchActive_desc, patchActive_curList, slotWords_patchDesc]

theorem Inv.patchActive {s : State} (h : Inv s) (hb : s.status.built = true) {ptr : Word}
    (hp : wordAligned ptr = true) (stride : Word) : Inv (patchActive ptr stride s) where
  mem := { h.mem with }
  flags := { h.flags with
    src_built := fun _ => hb
    next_active := fun _ _ => rfl
    cur_active := fun _ _ => rfl }
  chain :=
    { built := fun _ => by
        have hdesc := h.chain.built hb
        simp only [patchActive_desc, patchActive_params, patchActive_timing, patchActive_txDst, activeSrc_patchDesc]
        rw [hdesc, patchDesc_patchDesc]
        rfl
      aligned := fun _ l => by
        rw [patchActive_desc, activeSrc_patchDesc]
        exact patchSrc_aligned hp stride l
      unset := fun _ hs => Bool.noConfusion hs }
  engine :=
    { h.engine with
      left_pos := fun hr => by rw [laneLeft_patchActive]; exact h.engine.left_pos hr
      lockstep := fun hr l => by rw [laneLeft_patchActive, laneLeft_patchActive]; exact h.engine.lockstep hr l
      block := fun hr l => (h.engine.block hr l).patchActive (h.loadable hb).toBuiltDesc ptr stride
      read := fun hr l hl =>
        (h.engine.read hr l hl).trans (congrArg BitVec.toNat (descAt_patchDesc_count ..)).ge }

theorem Inv.submitList {s : State} (h : Inv s) {list : LineState}
    (hl : list = .active → s.status.srcValid = true) : Inv (submitList list s) where
  mem := { h.mem with }
  flags := { h.flags with next_active := fun _ => hl }
  chain := { h.chain with }
  engine := { h.engine with block := fun hr l => { h.engine.block hr l with } }

theorem Inv.beginHold {s : State} (h : Inv s) (hr : s.ctrl.run = true) : Inv (beginHold s) where
  mem := { h.mem with }
  flags := { h.flags with hold_run := fun _ => hr }
  chain := { h.chain with }
  engine := { h.engine with block := fun hr l => { h.engine.block hr l with } }

theorem Inv.exec {i : Instr} {s t : State} (h : Inv s) (he : exec i s = .next t) : Inv t := by
  rcases exec_cases he with ⟨c, rfl⟩ | rfl | ⟨⟨r0, r1, rfl⟩, -⟩ | ⟨b0, b1, -, rfl⟩ | ⟨-, ht⟩ |
    ⟨-, hs, -, hv, rfl⟩ | ⟨-, hb, ha, rfl⟩ | ⟨list, -, -, hl, rfl⟩ | ⟨-, hb, ha, rfl⟩ | ⟨-, hr, -, rfl⟩
  · exact h.cmdError c
  · exact h
  · exact h.of_same ⟨rfl, id⟩
  · exact h.of_same ⟨rfl, id⟩
  · rw [ht]; exact h.of_same ⟨rfl, id⟩
  · exact h.dmaSetup hs hv
  · exact h.patchActive hb ha _
  · exact h.submitList hl
  · exact (h.patchActive hb ha _).submitList fun _ => rfl
  · exact h.beginHold hr

/-! ### HOST steps and RESET -/

theorem Inv.regWrite {off : Offset} {v : Word} {s t : State} (h : Inv s) (hw : regWrite off v s = .next t) :
    Inv t := by
  rcases regWrite_cases hw with rfl | rfl | rfl | ⟨-, i, -, he⟩ | ⟨c, rfl⟩ | rfl | rfl | ⟨r, rfl⟩
  · exact h
  · exact h.writeCtrl v
  · exact h.writeStatus v
  · exact h.exec he
  · exact h.cmdError c
  · exact h.of_same ⟨rfl, id⟩
  · exact h.of_same ⟨rfl, id⟩
  · exact h.writeCfg r v

theorem Inv.hostStep {s t : State} (h : Inv s) (hs : hostStep s = .next t) : Inv t := by
  have hdrop : Inv (dropHostOp s) := h.of_same ⟨rfl, id⟩
  rcases hostStep_cases hs with ⟨ht, hh⟩ | ⟨-, rfl⟩ | ⟨off, v, -, hw⟩ | ⟨width, addr, v, hin, ha, rfl⟩
  · exact h.of_same ⟨by rw [ht], hh⟩
  · exact (h.cmdError .notRunning).of_same ⟨rfl, fun hf => Bool.noConfusion hf⟩
  · exact hdrop.regWrite hw
  · exact hdrop.storeMem v hin ha

/-- A block at its reset values meets the invariant, whatever stands outside it (R60, R290). -/
theorem inv_of_resetBlock {s : State} (hm : MemInv s) : Inv (resetBlock s) where
  mem := { hm with }
  flags :=
    { run_built := fun hr => Bool.noConfusion hr
      run_valid := fun hr => Bool.noConfusion hr
      built_valid := fun hb => Bool.noConfusion hb
      src_built := fun hb => Bool.noConfusion hb
      next_active := fun hr => Bool.noConfusion hr
      cur_active := fun hr => Bool.noConfusion hr
      fault_run := fun hf => Bool.noConfusion hf
      fault_cause := rfl
      err_cause := fun _ => rfl
      hold_run := fun hh => Bool.noConfusion hh }
  chain :=
    { built := fun hb => Bool.noConfusion hb
      aligned := fun hb => Bool.noConfusion hb
      unset := fun hb => Bool.noConfusion hb }
  engine :=
    { left_pos := fun hr => Bool.noConfusion hr
      lockstep := fun hr => Bool.noConfusion hr
      block := fun hr => Bool.noConfusion hr
      unread := fun hr => Bool.noConfusion hr
      read := fun hr => Bool.noConfusion hr
      fifo_equal := fun hr => Bool.noConfusion hr
      fifo_bound := fun hr => Bool.noConfusion hr
      fetched := fun hr => Bool.noConfusion hr
      emitted := rfl
      stopped := fun _ => ⟨rfl, rfl, rfl, rfl⟩ }

/-- Settles O53: the machine after reset is a block at its reset values over an empty listing of memory. -/
theorem resetMeetsInvariant : Obligations.ResetMeetsInvariant := fun p =>
  inv_of_resetBlock (s := { State.reset with params := p })
    { canonical := rfl, outside := fun _ hc => nomatch hc }

end Sys2Proof.Machine

/-! ## The invariant: the engine's steps, and every step of the machine -/

namespace Sys2Proof.Machine

/-! ### A word pushed on one lane (R224) -/

theorem advanceFetch_rem {f : LaneFetch} (h : f.rem ≠ 0#32) : (advanceFetch f).rem.toNat + 1 = f.rem.toNat := by
  have hpos : f.rem.toNat ≠ 0 := fun h0 => h (BitVec.eq_of_toNat_eq h0)
  have hlt := f.rem.isLt
  simp only [advanceFetch, BitVec.toNat_sub, BitVec.toNat_ofNat]
  omega

theorem advanceFetch_aligned {f : LaneFetch} (h : wordAligned f.addr = true) :
    wordAligned (advanceFetch f).addr = true := by
  simp only [wordAligned, beq_iff_eq, advanceFetch] at h ⊢
  split
  · rw [BitVec.toNat_add, BitVec.toNat_ofNat]; omega
  · exact h

/-- The block on the lane just read: one word fewer, and everything else it was. -/
theorem pushWord_lane_self (l : Lane) (w : Word) (s : State) :
    (pushWord l w s).fetcher.lanes.get l = advanceFetch (s.fetcher.lanes.get l) := by
  rw [pushWord_fetcher, Lanes.get_set_self]

theorem pushWord_lane_ne {l k : Lane} (w : Word) (s : State) (h : k ≠ l) :
    (pushWord l w s).fetcher.lanes.get k = s.fetcher.lanes.get k := by
  rw [pushWord_fetcher, Lanes.get_set_ne _ _ h]

theorem BlockInv.pushWord {s : State} {l k : Lane} {w : Word} (h : BlockInv s k)
    (hrem : (s.fetcher.lanes.get l).rem ≠ 0#32) : BlockInv (pushWord l w s) k := by
  by_cases hk : k = l
  · subst hk
    have hself := pushWord_lane_self k w s
    constructor <;> rw [hself]
    · exact h.used
    · exact h.dctrl
    · exact (Nat.le_of_succ_le (advanceFetch_rem hrem).le).trans h.count
    · exact advanceFetch_aligned h.aligned
    · intro hn
      have hn : dctrlIncr (s.fetcher.lanes.get k).dc = false := hn
      refine Eq.trans ?_ (h.repeats hn)
      simp [advanceFetch, hn]
  · have hne := pushWord_lane_ne w s hk
    constructor <;> rw [hne]
    · exact h.used
    · exact h.dctrl
    · exact h.count
    · exact h.aligned
    · exact h.repeats

/-- A push takes one word off what its lane has left, and nothing off the others. -/
theorem laneLeft_pushWord {s : State} {l : Lane} (hrem : (s.fetcher.lanes.get l).rem ≠ 0#32) (w : Word) (k : Lane) :
    laneLeft (pushWord l w s) k + (if k = l then 1 else 0) = laneLeft s k := by
  unfold laneLeft
  split
  · next hk =>
    subst hk
    rw [pushWord_lane_self, ← advanceFetch_rem hrem]
    exact Nat.add_right_comm ..
  · next hk => rw [pushWord_lane_ne w s hk]; rfl

theorem fifo_length_pushWord (l k : Lane) (w : Word) (s : State) :
    ((pushWord l w s).fifo.get k).length = (s.fifo.get k).length + (if k = l then 1 else 0) := by
  rw [pushWord_fifo]
  split
  · next hk => subst hk; rw [Lanes.get_set_self, List.length_append, List.length_singleton]
  · next hk => rw [Lanes.get_set_ne _ _ hk, Nat.add_zero]

/-- Moving FK on from a lane marks that lane as read, lane 2 aside (R222). -/
theorem laneAhead_nextLane {l : Lane} (hl : l ≠ .lane2) (k : Lane) :
    laneAhead (nextLane l) k = laneAhead l k + (if k = l then 1 else 0) := by
  cases l <;> cases k <;> first | rfl | exact absurd rfl hl

theorem run_of_fetchEnabled {s : State} (h : fetchEnabled s = true) : s.ctrl.run = true := by
  simp only [fetchEnabled, Bool.and_eq_true] at h
  exact h.1.1

/-- Where the FETCHER may read, the FIFO it appends to has room (R222). -/
theorem EngineInv.fifo_room {s : State} (h : EngineInv s) (hf : fetchEnabled s = true) :
    (s.fifo.get s.fetcher.fk).length + 1 ≤ fifoDepth s.params := by
  simp only [fetchEnabled, fifoHasRoom, Bool.and_eq_true, Bool.or_eq_true, Bool.not_eq_true', bne_iff_ne,
    decide_eq_true_eq] at hf
  obtain ⟨⟨hr, -⟩, hroom⟩ := hf
  have hlevel := h.fifo_equal hr
  have hbound := h.fifo_bound hr .lane0
  cases hfk : s.fetcher.fk <;> simp only [hfk] at hroom hlevel
  case lane0 => exact (hroom.resolve_left fun hne => hne rfl).1.1
  case lane1 => rw [hlevel .lane1]; rw [hlevel .lane0] at hbound; exact hbound
  case lane2 => rw [hlevel .lane0] at hbound; exact hbound

/-! ### A read within a fetch slot (lanes 0 and 1) -/

theorem EngineInv.pushWord {s : State} (h : EngineInv s) (hf : fetchEnabled s = true)
    (hl : s.fetcher.fk ≠ .lane2) (hrem : (s.fetcher.lanes.get s.fetcher.fk).rem ≠ 0#32) (w : Word) :
    EngineInv (pushWord s.fetcher.fk w s) := by
  have hroom := h.fifo_room hf
  generalize hk : s.fetcher.fk = l at *
  have hleft := laneLeft_pushWord hrem w
  have hleft2 := hleft .lane2
  have hlen := fun k => fifo_length_pushWord l k w s
  have hlen2 := hlen .lane2
  rw [if_neg (Ne.symm hl), Nat.add_zero] at hleft2 hlen2
  have hfk : (Machine.pushWord l w s).fetcher.fk = nextLane l := rfl
  have hahead := laneAhead_nextLane hl
  constructor
  case left_pos => intro hr; rw [hleft2]; exact h.left_pos hr
  case lockstep =>
    intro hr k
    have := h.lockstep hr k
    have := hleft k
    rw [hfk, hahead, hleft2]
    rw [hk] at *
    omega
  case block => exact fun hr k => (h.block hr k).pushWord hrem
  case unread =>
    intro hr k ha
    rw [hfk, hahead, Nat.add_eq_zero_iff] at ha
    have hne : k ≠ l := fun he => by simp [he] at ha
    rw [pushWord_lane_ne w s hne]
    exact h.unread hr k (hk ▸ ha.1)
  case read =>
    intro hr k ha
    rw [hfk, hahead] at ha
    by_cases he : k = l
    · subst he
      rw [pushWord_lane_self, advanceFetch_rem hrem]
      exact (h.block hr k).count
    · rw [if_neg he, Nat.add_zero] at ha
      rw [pushWord_lane_ne w s he]
      exact h.read hr k (hk ▸ ha)
  case fifo_equal =>
    intro hr k
    have := h.fifo_equal hr k
    rw [hfk, hahead, hlen, hlen2, this, hk, Nat.add_assoc]
  case fifo_bound =>
    intro hr k
    rw [hlen]
    split
    · next he => rw [he]; exact hroom
    · exact h.fifo_bound hr k
  case fetched => intro hr; rw [hlen2]; exact h.fetched hr
  case emitted => exact h.emitted
  case stopped =>
    intro hr
    exact absurd (run_of_fetchEnabled hf) (by simpa using hr)

theorem Inv.pushWord {s : State} (h : Inv s) (hf : fetchEnabled s = true) (hl : s.fetcher.fk ≠ .lane2)
    (hrem : (s.fetcher.lanes.get s.fetcher.fk).rem ≠ 0#32) (w : Word) : Inv (pushWord s.fetcher.fk w s) where
  mem := { h.mem with }
  flags := { h.flags with }
  chain := { h.chain with }
  engine := h.engine.pushWord hf hl hrem w

/-! ### The end of a fetch slot (R225, R226) -/

/-- The state with LINE_IRQ raised where the block just completed asks for it (R225). -/
def flagBlock (f : LaneFetch) (x : State) : State :=
  { x with status := if dctrlIrq f.dc then flagLineIrq x.status else x.status }

/-- The two states differ at most in LINE_IRQ, IRQ_OVR and the blocks in flight. -/
def slotFrame (m x : State) : Prop :=
  x = { m with
    status := { m.status with lineIrq := x.status.lineIrq, irqOvr := x.status.irqOvr }
    fetcher := { m.fetcher with lanes := x.fetcher.lanes } }

theorem slotFrame.trans {m x y : State} (h : slotFrame m x) (k : slotFrame x y) : slotFrame m y :=
  Eq.trans k (by rw [h])

theorem slotFrame_flagBlock (f : LaneFetch) (x : State) : slotFrame x (flagBlock f x) := by
  unfold slotFrame flagBlock
  split <;> rfl

theorem slotFrame_loadLane (l : Lane) (b : Slot) (x : State) : slotFrame x (loadLane l b x) := rfl

/-- What `SlotDone` does on one lane: nothing while words are left; else LINE_IRQ where the block asks for it, then
the request to cross where it is the last block, and the next slot's block where it is not. -/
theorem completeLane_cases {l : Lane} {x : State} {cross : Bool} {r : State × Bool}
    (h : completeLane l (x, cross) = some r) :
    let f := x.fetcher.lanes.get l
    (f.rem ≠ 0#32 ∧ r = (x, cross)) ∨
      (f.rem = 0#32 ∧ dctrlLast f.dc = true ∧ r = (flagBlock f x, true)) ∨
      (f.rem = 0#32 ∧ dctrlLast f.dc = false ∧
        ∃ b, nextSlot f.slot = some b ∧ r = (loadLane l b (flagBlock f x), cross)) := by
  unfold completeLane at h
  dsimp only at h ⊢
  split at h
  · next hrem =>
    split at h
    · next hlast => cases h; exact .inr (.inl ⟨hrem, hlast, rfl⟩)
    · next hlast =>
      split at h
      · next b hb => cases h; exact .inr (.inr ⟨hrem, by simpa using hlast, b, hb, rfl⟩)
      · cases h
  · next hrem => cases h; exact .inl ⟨hrem, rfl⟩

/-- On a used slot that is not its lane's last, the next slot is used and the first of those after it (R190). -/
theorem slotsAfter_eq_cons {l : Lane} {b c : Slot} (hn : nextSlot b = some c) (hb : slotUsed l b = true)
    (hlast : (slotsAfter l b).isEmpty = false) : slotUsed l c = true ∧ slotsAfter l b = c :: slotsAfter l c := by
  cases l <;> cases b <;> cases hn <;> first
    | exact ⟨rfl, rfl⟩
    | exact absurd hb (by decide)
    | exact absurd hlast (by decide)

theorem slotsAfter_used {l : Lane} {b c : Slot} (hc : c ∈ slotsAfter l b) : slotUsed l c = true := by
  cases l <;> cases b <;> cases c <;> first | rfl | simp [slotsAfter] at hc

/-- Slots still to come have words (R194). -/
theorem slotWords_pos {d : DescRam} {t : Timing} (hd : BuiltDesc d t) (list : LineState) {l : Lane} {b : Slot}
    (hne : (slotsAfter l b).isEmpty = false) : 1 ≤ slotWords d list l (slotsAfter l b) := by
  cases hs : slotsAfter l b with
  | nil => simp [hs] at hne
  | cons c rest =>
    have hc : slotUsed l c = true := slotsAfter_used (b := b) (by rw [hs]; exact List.mem_cons_self ..)
    exact (hd.count_pos list l c hc).trans (Nat.le_add_right ..)

/-- The bookkeeping of a fetch slot under way: the state `x` has come from `m` by raising interrupt flags and loading
slots; every block is a copy of its slot, and every lane has `n` words of the line left. -/
structure SlotEnd (m x : State) (n : Nat) : Prop where
  frame : slotFrame m x
  block : ∀ l, BlockInv x l
  left : ∀ l, laneLeft x l = n

theorem BlockInv.flagBlock {x : State} {l : Lane} (h : BlockInv x l) (f : LaneFetch) :
    BlockInv (flagBlock f x) l := { h with }

/-- Loading a slot leaves the blocks of the other lanes. -/
theorem BlockInv.loadLane_ne {x : State} {l k : Lane} (h : BlockInv x k) (b : Slot) (hk : k ≠ l) :
    BlockInv (loadLane l b x) k := by
  have hne : (loadLane l b x).fetcher.lanes.get k = x.fetcher.lanes.get k := Lanes.get_set_ne _ _ hk
  constructor <;> rw [hne]
  exacts [h.used, h.dctrl, h.count, h.aligned, h.repeats]

/-- Loading the next slot of a lane whose block is complete leaves as many words of the line as before. -/
theorem laneLeft_loadLane {x : State} {l : Lane} {b : Slot} (hrem : (x.fetcher.lanes.get l).rem = 0#32)
    (hafter : slotsAfter l (x.fetcher.lanes.get l).slot = b :: slotsAfter l b) (k : Lane) :
    laneLeft (loadLane l b x) k = laneLeft x k := by
  by_cases hk : k = l
  · subst hk
    have hself : (loadLane k b x).fetcher.lanes.get k = snapshot x.desc x.curList k b := Lanes.get_set_self ..
    rw [laneLeft, laneLeft, hself, hrem, hafter]
    simp [slotWords, snapshot]
  · rw [laneLeft, laneLeft, show (loadLane l b x).fetcher.lanes.get k = x.fetcher.lanes.get k from
      Lanes.get_set_ne _ _ hk]
    rfl

/-- One lane's bookkeeping: with words of the line left, its block has words and no crossing is asked for; with none
left, the crossing is asked for. The other lanes' blocks stay. -/
theorem SlotEnd.completeLane {m x : State} {n : Nat} (h : SlotEnd m x n) {t : Timing} (hd : LoadableDesc m.desc t)
    {l : Lane} {cross : Bool} {r : State × Bool} (hc : completeLane l (x, cross) = some r) :
    SlotEnd m r.1 n ∧ (∀ k, k ≠ l → r.1.fetcher.lanes.get k = x.fetcher.lanes.get k) ∧
      (n ≠ 0 → r.2 = cross ∧ 1 ≤ (r.1.fetcher.lanes.get l).rem.toNat) ∧ (n = 0 → r.2 = true) := by
  have hdesc : x.desc = m.desc := by rw [h.frame]
  rw [← hdesc] at hd
  have hb := h.block l
  have hn := h.left l
  have hlast := hd.last x.curList l _ hb.used
  rw [← hb.dctrl] at hlast
  rw [laneLeft] at hn
  rcases completeLane_cases hc with ⟨hrem, rfl⟩ | ⟨hrem, hl, rfl⟩ | ⟨hrem, hl, b, hnext, rfl⟩
  · have hpos : 1 ≤ (x.fetcher.lanes.get l).rem.toNat :=
      Nat.pos_of_ne_zero fun h0 => hrem (BitVec.eq_of_toNat_eq h0)
    exact ⟨h, fun _ _ => rfl, fun _ => ⟨rfl, hpos⟩, fun h0 => by omega⟩
  · rw [hl, eq_comm, List.isEmpty_iff] at hlast
    have hn0 : n = 0 := by rw [← hn, hrem, hlast]; rfl
    exact ⟨⟨h.frame.trans (slotFrame_flagBlock ..), fun k => (h.block k).flagBlock _, h.left⟩, fun _ _ => rfl,
      fun h0 => absurd hn0 h0, fun _ => rfl⟩
  · rw [hl] at hlast
    obtain ⟨hused, hafter⟩ := slotsAfter_eq_cons hnext hb.used hlast.symm
    have hpos := slotWords_pos hd.toBuiltDesc x.curList hlast.symm
    refine ⟨⟨?_, fun k => ?_, fun k => ?_⟩, fun k hk => Lanes.get_set_ne _ _ hk, fun _ => ⟨rfl, ?_⟩, fun h0 => ?_⟩
    · exact (h.frame.trans (slotFrame_flagBlock ..)).trans (slotFrame_loadLane ..)
    · by_cases hk : k = l
      · subst hk
        exact blockInv_of_snapshot (Lanes.get_set_self ..) hused (hd.src_aligned ..)
      · exact ((h.block k).flagBlock _).loadLane_ne b hk
    · exact (laneLeft_loadLane (x := flagBlock (x.fetcher.lanes.get l) x) hrem hafter k).trans (h.left k)
    · rw [loadLane_fetcher, Lanes.get_set_self]
      exact hd.count_pos x.curList l b hused
    · omega

/-- `SlotDone` answers a next state where the three lanes in turn do, and crosses where one of them asked for it. -/
theorem slotDone_eq_next_iff {m t : State} : slotDone m = .next t ↔
    ∃ r0 r1 r2, completeLane .lane0 (countSlot m, false) = some r0 ∧ completeLane .lane1 r0 = some r1 ∧
      completeLane .lane2 r1 = some r2 ∧ t = if r2.2 then lineCross r2.1 else r2.1 := by
  unfold slotDone
  constructor
  · intro h
    split at h
    · next y cross hy =>
      obtain ⟨r1, hr1, hy⟩ := Option.bind_eq_some_iff.mp hy
      obtain ⟨r0, hr0, hr1⟩ := Option.bind_eq_some_iff.mp hr1
      cases h
      exact ⟨r0, r1, _, hr0, hr1, hy, rfl⟩
    · cases h
  · rintro ⟨r0, r1, r2, h0, h1, h2, rfl⟩
    rw [h0, Option.bind_some, h1, Option.bind_some, h2]

/-- `SlotDone` on a state whose lanes are level: with words of the line left, no crossing, and every lane has a block
with words; with none left, the crossing. -/
theorem slotDone_cases {m t : State} {n : Nat} {tm : Timing} (hd : LoadableDesc m.desc tm)
    (hm : SlotEnd (countSlot m) (countSlot m) n) (h : slotDone m = .next t) :
    ∃ x, SlotEnd (countSlot m) x n ∧
      (n ≠ 0 → t = x ∧ ∀ l, 1 ≤ (x.fetcher.lanes.get l).rem.toNat) ∧ (n = 0 → t = lineCross x) := by
  obtain ⟨r0, r1, r2, hr0, hr1, hr2, rfl⟩ := slotDone_eq_next_iff.mp h
  obtain ⟨e0, -, w0, -⟩ := hm.completeLane hd hr0
  obtain ⟨e1, s1, w1, -⟩ := e0.completeLane hd hr1
  obtain ⟨e2, s2, w2, c2⟩ := e1.completeLane hd hr2
  refine ⟨r2.1, e2, fun hn => ?_, fun hn => by rw [if_pos (c2 hn)]⟩
  obtain ⟨k0, p0⟩ := w0 hn
  obtain ⟨k1, p1⟩ := w1 hn
  obtain ⟨k2, p2⟩ := w2 hn
  have hcross : r2.2 = false := k2.trans (k1.trans k0)
  refine ⟨by rw [hcross]; rfl, fun l => ?_⟩
  cases l
  · rw [s2 _ (by decide), s1 _ (by decide)]; exact p0
  · rw [s2 _ (by decide)]; exact p1
  · exact p2

/-- The three words of a fetch slot read and the slot counted: the lanes are level, in the line and in their FIFOs. -/
theorem EngineInv.slotEnd {s : State} (h : EngineInv s) (hr : s.ctrl.run = true) (hfk : s.fetcher.fk = .lane2)
    (hrem : (s.fetcher.lanes.get .lane2).rem ≠ 0#32) (w : Word) :
    SlotEnd (countSlot (Machine.pushWord .lane2 w s)) (countSlot (Machine.pushWord .lane2 w s))
      (laneLeft s .lane2 - 1) where
  frame := rfl
  block l := { (h.block hr l).pushWord (w := w) hrem with }
  left l := by
    have hpush := laneLeft_pushWord hrem w l
    have hlock := h.lockstep hr l
    have hpos := h.left_pos hr
    rw [hfk] at hlock
    show laneLeft (Machine.pushWord .lane2 w s) l = _
    cases l <;> simp [laneAhead] at hpush hlock <;> omega

/-- The end of a fetch slot is a boundary: lane 2's word has brought its FIFO level with the others. -/
theorem EngineInv.slotBoundary {s : State} (h : EngineInv s) (hf : fetchEnabled s = true)
    (hfk : s.fetcher.fk = .lane2) (w : Word) : SlotBoundary (countSlot (Machine.pushWord .lane2 w s)) := by
  have hr := run_of_fetchEnabled hf
  have hroom := h.fifo_room hf
  have hlen := fun k => fifo_length_pushWord .lane2 k w s
  have hlen2 : ((Machine.pushWord .lane2 w s).fifo.get .lane2).length = (s.fifo.get .lane2).length + 1 := hlen .lane2
  rw [hfk] at hroom
  constructor
  case lane0_next => rfl
  case level =>
    intro l
    have hl := h.fifo_equal hr l
    rw [countSlot_fifo, hlen, hlen2, hl, hfk]
    cases l <;> rfl
  case room => rw [countSlot_fifo, hlen2]; exact hroom
  case fetched =>
    rw [countSlot_fifo, hlen2, countSlot_fetchCnt, pushWord_fetchCnt, h.fetched hr, BitVec.ofNat_add, ← BitVec.add_assoc]
    rfl
  case emitted => exact h.emitted

theorem SlotEnd.slotBoundary {m x : State} {n : Nat} (h : SlotEnd m x n) (hm : SlotBoundary m) : SlotBoundary x := by
  rw [h.frame]
  exact { hm with }

theorem FlagInv.lineCross {s : State} (h : FlagInv s) : FlagInv (lineCross s) :=
  { h with cur_active := h.next_active }

/-- The read of lane 2 and the slot's bookkeeping: the line goes on, or the next one begins. -/
theorem Inv.slotDone {s t : State} (h : Inv s) (hf : fetchEnabled s = true) (hfk : s.fetcher.fk = .lane2)
    (hrem : (s.fetcher.lanes.get .lane2).rem ≠ 0#32) {w : Word}
    (hd : slotDone (Machine.pushWord .lane2 w s) = .next t) : Inv t := by
  have hr := run_of_fetchEnabled hf
  have hload := h.loadable (h.flags.run_built hr)
  obtain ⟨x, hx, hgo, hcross⟩ := slotDone_cases (m := Machine.pushWord .lane2 w s) hload (h.engine.slotEnd hr hfk hrem w) hd
  have hbound := hx.slotBoundary (h.engine.slotBoundary hf hfk w)
  have hmem : MemInv x := by rw [hx.frame]; exact { h.mem with }
  have hflags : FlagInv x := by rw [hx.frame]; exact { h.flags with }
  have hchain : ChainInv x := by rw [hx.frame]; exact { h.chain with }
  have hxr : x.ctrl.run = true := by rw [hx.frame]; exact hr
  by_cases hn : laneLeft s .lane2 - 1 = 0
  · rw [hcross hn]
    have hxd : LoadableDesc x.desc s.timing := by rw [hx.frame]; exact hload
    have hstart : atLineStart (Machine.lineCross x) :=
      congrArg (Fetcher.mk (loadFirstSlots x.desc x.nextList)) hbound.lane0_next
    exact ⟨{ hmem with }, hflags.lineCross, { hchain with }, hstart.engineInv { hbound with } hxd hxr⟩
  · obtain ⟨rfl, hpos⟩ := hgo hn
    exact ⟨hmem, hflags, hchain, hbound.engineInv hxr hn hx.left hx.block hpos⟩

theorem Inv.fetchRead {s t : State} (h : Inv s) (hf : fetchEnabled s = true) (hs : fetchRead s = .next t) : Inv t := by
  have hr := run_of_fetchEnabled hf
  rcases fetchRead_cases hs with ⟨-, rfl⟩ | ⟨w, -, hrem, ⟨hl, rfl⟩ | ⟨hl, hd⟩⟩
  · exact h.txFault hr
  · exact h.pushWord hf hl hrem w
  · exact h.slotDone hf hl (hl ▸ hrem) hd

/-! ### EMITTER steps (R235) -/

theorem Inv.emitTriple {s : State} (h : Inv s) (he : emitEnabled s = true) : Inv (emitTriple s) := by
  obtain ⟨hr, -, w0, q0, w1, q1, w2, q2, hq, e⟩ := emit_cases he
  have hlen : ∀ l, (s.fifo.get l).length = ((⟨q0, q1, q2⟩ : Lanes (List Word)).get l).length + 1 := fun l => by
    rw [hq]; cases l <;> rfl
  rw [e]
  refine ⟨{ h.mem with }, { h.flags with }, { h.chain with }, ?_⟩
  exact { h.engine with
    block := fun _ l => { h.engine.block hr l with }
    fifo_equal := fun _ l => by
      have hlevel := h.engine.fifo_equal hr l
      rw [hlen, hlen, Nat.add_right_comm] at hlevel
      exact Nat.succ.inj hlevel
    fifo_bound := fun _ l => Nat.le_of_succ_le ((hlen l).symm.trans_le (h.engine.fifo_bound hr l))
    fetched := fun _ => by
      have hf := h.engine.fetched hr
      rw [hlen .lane2, Nat.add_comm, BitVec.ofNat_add, ← BitVec.add_assoc] at hf
      exact hf
    emitted := by
      rw [List.length_append, List.length_singleton, BitVec.ofNat_add, ← h.engine.emitted]
    stopped := fun hs => by simp [hr] at hs }

/-! ### Every step -/

/-- A FETCHER step is a read where one is enabled, and nothing where not (R222). -/
theorem runAgent_fetcher_cases {s t : State} (h : runAgent .fetcher s = .next t) :
    (fetchEnabled s = true ∧ fetchRead s = .next t) ∨ (¬ fetchEnabled s = true ∧ t = s) := by
  rw [runAgent] at h
  split at h
  · next hf => exact .inl ⟨hf, h⟩
  · next hf => cases h; exact .inr ⟨hf, rfl⟩

/-- An EMITTER step takes a triple where it is enabled, and does nothing where not (R233). -/
theorem runAgent_emitter_cases {s t : State} (h : runAgent .emitter s = .next t) :
    (emitEnabled s = true ∧ t = emitTriple s) ∨ (¬ emitEnabled s = true ∧ t = s) := by
  rw [runAgent] at h
  split at h
  · next he => cases h; exact .inl ⟨he, rfl⟩
  · next he => cases h; exact .inr ⟨he, rfl⟩

theorem Inv.runAgent {a : Agent} {s t : State} (h : Inv s) (hs : runAgent a s = .next t) : Inv t := by
  cases a with
  | host => exact h.hostStep hs
  | fetcher =>
    rcases runAgent_fetcher_cases hs with ⟨hf, hread⟩ | ⟨-, rfl⟩
    · exact h.fetchRead hf hread
    · exact h
  | emitter =>
    rcases runAgent_emitter_cases hs with ⟨he, rfl⟩ | ⟨-, rfl⟩
    · exact h.emitTriple he
    · exact h
  | reset => cases hs; exact inv_of_resetBlock h.mem
  | otherCore width addr v =>
    cases hs
    rcases otherCoreWrite_cases width addr v s with ⟨hw, ha, e⟩ | e <;> rw [e]
    · exact h.storeMem v hw ha
    · exact h

/-- Settles O54, agent by agent: the agenda moves on unnoticed, and each agent's step keeps the invariant. -/
theorem everyStepKeepsInvariant : Obligations.EveryStepKeepsInvariant := by
  intro s t h hs
  rcases step_cases hs with ⟨a, ha⟩ | rfl
  · have hdrop : Inv (dropAgenda s) := h.of_same ⟨rfl, id⟩
    exact hdrop.runAgent ha
  · exact h

end Sys2Proof.Machine

/-! ## What the commands change -/

namespace Sys2Proof.Machine

/-! ### The frame of every command -/

/-- The fields a command may write: RES0, RES1, VSTATE, VCTR, DESC, NEXT_LIST, ARMED, the hold, and of STATUS UNBAL,
CMD_ERR with ERR_CAUSE, BUILT and SRC_VALID. -/
theorem exec_frame {i : Instr} {s t : State} (h : exec i s = .next t) :
    t = { s with
      host := { s.host with holding := t.host.holding }
      status := { s.status with
        unbal := t.status.unbal
        cmdErr := t.status.cmdErr
        errCause := t.status.errCause
        built := t.status.built
        srcValid := t.status.srcValid }
      res0 := t.res0
      res1 := t.res1
      vstate := t.vstate
      vctr := t.vctr
      desc := t.desc
      nextList := t.nextList
      armed := t.armed } := by
  rcases exec_cases h with ⟨c, rfl⟩ | rfl | ⟨⟨r0, r1, rfl⟩, -⟩ | ⟨b0, b1, -, rfl⟩ | ⟨-, ht⟩ |
    ⟨-, -, -, -, rfl⟩ | ⟨-, -, -, rfl⟩ | ⟨list, -, -, -, rfl⟩ | ⟨-, -, -, rfl⟩ | ⟨-, -, -, rfl⟩
    <;> try rfl
  · rw [ht]

/-- The commands that write the results (R23). -/
theorem exec_results {i : Instr} {s t : State} (h : exec i s = .next t) :
    (t.res0 = s.res0 ∧ t.res1 = s.res1) ∨ (∃ b, i = .enc b) ∨ (∃ b c, i = .encPair b c) ∨
      (∃ b, i = .encApprox b) ∨ (∃ c, i = .ctrlSym c) ∨ i = .timIndex := by
  rcases exec_cases h with ⟨c, rfl⟩ | rfl | ⟨-, hi⟩ | ⟨b0, b1, rfl, -⟩ | ⟨-, ht⟩ |
    ⟨-, -, -, -, rfl⟩ | ⟨-, -, -, rfl⟩ | ⟨list, -, -, -, rfl⟩ | ⟨-, -, -, rfl⟩ | ⟨-, -, -, rfl⟩
    <;> try exact .inl ⟨rfl, rfl⟩
  · rcases hi with hi | hi | hi | hi
    · exact .inr (.inl hi)
    · exact .inr (.inr (.inr (.inl hi)))
    · exact .inr (.inr (.inr (.inr (.inl hi))))
    · exact .inr (.inr (.inr (.inr (.inr hi))))
  · exact .inr (.inr (.inl ⟨b0, b1, rfl⟩))
  · rw [ht]; exact .inl ⟨rfl, rfl⟩

/-- ENC_PAIR alone sets UNBAL (R141). -/
theorem exec_unbal {i : Instr} {s t : State} (h : exec i s = .next t) :
    t.status.unbal = s.status.unbal ∨ ∃ b c, i = .encPair b c := by
  rcases exec_cases h with ⟨c, rfl⟩ | rfl | ⟨⟨r0, r1, rfl⟩, -⟩ | ⟨b0, b1, rfl, -⟩ | ⟨-, ht⟩ |
    ⟨-, -, -, -, rfl⟩ | ⟨-, -, -, rfl⟩ | ⟨list, -, -, -, rfl⟩ | ⟨-, -, -, rfl⟩ | ⟨-, -, -, rfl⟩
    <;> try exact .inl rfl
  · exact .inr ⟨b0, b1, rfl⟩
  · rw [ht]; exact .inl rfl

/-- Settles O37, from the frame of every command and the commands that write the results and UNBAL. -/
theorem whatCommandsLeaveAlone : Obligations.WhatCommandsLeaveAlone := by
  intro i s t h
  have hframe := exec_frame h
  refine ⟨?_, ?_, ?_, ?_, ?_, ?_, fun a => ?_, exec_results h, exec_unbal h⟩ <;> rw [hframe]
  rfl

/-- Settles O38, from the frame of every command. -/
theorem commandsLeaveTheEngineAlone : Obligations.CommandsLeaveTheEngineAlone := by
  intro i s t h
  have hframe := exec_frame h
  refine ⟨?_, ?_, ?_, ?_, ?_, ?_, ?_, ?_, ?_, ?_, ?_⟩ <;> rw [hframe]

/-! ### The timing position (R168) -/

/-- TIM_RESET and TIM_ADVANCE alone move the timing position. -/
theorem exec_timing {i : Instr} {s t : State} (h : exec i s = .next t) :
    (t.vstate = s.vstate ∧ t.vctr = s.vctr) ∨ i = .timReset ∨ i = .timAdvance := by
  rcases exec_cases h with ⟨c, rfl⟩ | rfl | ⟨⟨r0, r1, rfl⟩, -⟩ | ⟨b0, b1, -, rfl⟩ | ⟨hi, -⟩ |
    ⟨-, -, -, -, rfl⟩ | ⟨-, -, -, rfl⟩ | ⟨list, -, -, -, rfl⟩ | ⟨-, -, -, rfl⟩ | ⟨-, -, -, rfl⟩
    <;> try exact .inl ⟨rfl, rfl⟩
  · exact .inr hi

/-! ### DESC (R40, R201) -/

/-- What a command may do to DESC: DMA_SETUP while stopped builds it, and the two patch commands patch it. -/
theorem exec_desc {i : Instr} {s t : State} (h : exec i s = .next t) :
    t.desc = s.desc ∨ (i = .dmaSetup ∧ s.ctrl.run = false) ∨
      ((i = .dmaUpdate ∨ i = .txSubmitActive) ∧ ∃ a0 a1 a2, t.desc = patchDesc s.desc a0 a1 a2) := by
  rcases exec_cases h with ⟨c, rfl⟩ | rfl | ⟨⟨r0, r1, rfl⟩, -⟩ | ⟨b0, b1, -, rfl⟩ | ⟨-, ht⟩ |
    ⟨hi, hr, -⟩ | ⟨hi, -, -, rfl⟩ | ⟨list, -, -, -, rfl⟩ | ⟨hi, -, -, rfl⟩ | ⟨-, -, -, rfl⟩
    <;> try exact .inl rfl
  · rw [ht]; exact .inl rfl
  · exact .inr (.inl ⟨hi, hr⟩)
  · exact .inr (.inr ⟨.inl hi, _, _, _, rfl⟩)
  · exact .inr (.inr ⟨.inr hi, _, _, _, rfl⟩)

/-- The patch changes no word but the SRC words of the Active list's active-region slots (R200). -/
theorem descAt_patchDesc_frame (d : DescRam) (a0 a1 a2 : Word) (list : LineState) (l : Lane) (b : Slot) :
    let e := patchDesc d a0 a1 a2
    descAt e list l b = { descAt d list l b with src := (descAt e list l b).src } ∧
      (¬ (list = .active ∧ b = activeSlot l) → descAt e list l b = descAt d list l b) := by
  dsimp only
  rw [descAt_patchDesc]
  split
  · next h => exact ⟨rfl, fun hn => absurd h hn⟩
  · exact ⟨rfl, fun _ => rfl⟩

/-! ### Register writes and the agents -/

/-- The timing position and DESC are the same in both states. -/
def sameTimingAndDesc (s t : State) : Prop := t.vstate = s.vstate ∧ t.vctr = s.vctr ∧ t.desc = s.desc

/-- A HOST write to the window leaves the timing position and DESC alone, unless it runs a command (R39, R40, R168). -/
theorem regWrite_sameTimingAndDesc {off : Offset} {v : Word} {s t : State} (h : regWrite off v s = .next t) :
    sameTimingAndDesc s t ∨ (regAt off = some .cmd ∧ ∃ i, decode v = .ok i ∧ exec i s = .next t) := by
  rcases regWrite_cases h with rfl | rfl | rfl | hcmd | ⟨c, rfl⟩ | rfl | rfl | ⟨q, rfl⟩
    <;> try exact .inl ⟨rfl, rfl, rfl⟩
  · rcases writeCtrl_cases v s with e | ⟨-, e⟩ | ⟨-, -, -, -, e⟩ <;> rw [e] <;> exact .inl ⟨rfl, rfl, rfl⟩
  · exact .inr hcmd
  · rcases writeCfg_cases q v s with ⟨-, e⟩ | ⟨-, e⟩ <;> rw [e]
    · exact .inl ⟨rfl, rfl, rfl⟩
    · rw [storeCfg_eq]; exact .inl ⟨rfl, rfl, rfl⟩

theorem writeReg_sameTimingAndDesc {r : Reg} (hr : r ≠ .cmd) {v : Word} {s t : State}
    (h : writeReg r v s = .next t) : sameTimingAndDesc s t := by
  refine (regWrite_sameTimingAndDesc ((regWrite_regOffset r v s).trans h)).resolve_right fun ⟨hcmd, _⟩ => ?_
  exact hr (Option.some.inj ((regAt_regOffset r).symm.trans hcmd))

/-- No step of an agent but RESET moves the timing position or changes DESC, but the HOST's write of a command. -/
theorem runAgent_sameTimingAndDesc {a : Agent} {s t : State} (ha : a ≠ .reset) (h : runAgent a s = .next t) :
    sameTimingAndDesc s t ∨
      (a = .host ∧ ∃ w i, hostWrites s 0x008#12 w ∧ decode w = .ok i ∧ exec i (dropHostOp s) = .next t) := by
  cases a with
  | host =>
    rcases hostStep_cases h with ⟨e, -⟩ | ⟨-, rfl⟩ | ⟨off, v, hw, hreg⟩ | ⟨width, addr, v, -, -, rfl⟩
    · rw [e]; exact .inl ⟨rfl, rfl, rfl⟩
    · exact .inl ⟨rfl, rfl, rfl⟩
    · rcases regWrite_sameTimingAndDesc hreg with hsame | ⟨hcmd, i, hd, hx⟩
      · exact .inl hsame
      · have hoff : off = 0x008#12 := (regOffset_of_regAt hcmd).symm
        exact .inr ⟨rfl, v, i, hoff ▸ hw, hd, hx⟩
    · exact .inl ⟨rfl, rfl, rfl⟩
  | fetcher =>
    rcases runAgent_fetcher_cases h with ⟨-, hread⟩ | ⟨-, rfl⟩
    · rw [fetchRead_frame hread]; exact .inl ⟨rfl, rfl, rfl⟩
    · exact .inl ⟨rfl, rfl, rfl⟩
  | emitter =>
    rcases runAgent_emitter_cases h with ⟨he, rfl⟩ | ⟨-, rfl⟩
    · obtain ⟨-, -, w0, q0, w1, q1, w2, q2, -, e⟩ := emit_cases he
      rw [e]
      exact .inl ⟨rfl, rfl, rfl⟩
    · exact .inl ⟨rfl, rfl, rfl⟩
  | reset => exact absurd rfl ha
  | otherCore width addr v =>
    cases h
    rcases otherCoreWrite_cases width addr v s with ⟨-, -, e⟩ | e <;> rw [e] <;> exact .inl ⟨rfl, rfl, rfl⟩

/-- Settles O22: a step that moves the timing position is the HOST's write of a command, and that command is one of
the two. -/
theorem onlyTimingCommandsMoveTiming : Obligations.OnlyTimingCommandsMoveTiming := by
  refine ⟨fun i s t h hr hadv => ?_, fun r v s t hr h => ?_, fun a s t ha h => ?_⟩
  · exact (exec_timing h).resolve_right fun hi => hi.elim hr hadv
  · obtain ⟨hs, hc, -⟩ := writeReg_sameTimingAndDesc hr h
    exact ⟨hs, hc⟩
  · rcases runAgent_sameTimingAndDesc ha h with ⟨hs, hc, -⟩ | ⟨hhost, w, i, hw, hd, hx⟩
    · exact .inl ⟨hs, hc⟩
    · rcases exec_timing hx with hsame | hi
      · exact .inl hsame
      · exact .inr ⟨hhost, w, i, hw, hd, hi, hx⟩

/-- Settles O31: a step that changes DESC is the HOST's write of a command, which builds or patches it. -/
theorem onlySetupAndPatchesChangeDesc : Obligations.OnlySetupAndPatchesChangeDesc := by
  refine ⟨fun i s t h => ⟨fun hi list l b => ?_, fun hi hu hp => ?_, fun hi hr => ?_⟩, fun r v s t hr h => ?_,
    fun a s t ha h => ?_⟩
  · rcases exec_desc h with e | ⟨hs, -⟩ | ⟨-, a0, a1, a2, e⟩
    · rw [e]; exact ⟨rfl, fun _ => rfl⟩
    · exact absurd hs hi
    · rw [e]; exact descAt_patchDesc_frame ..
  · exact (exec_desc h).resolve_right fun hd =>
      hd.elim (fun hs => hi hs.1) fun hpatch => hpatch.1.elim hu hp
  · rcases exec_desc h with e | ⟨-, hs⟩ | ⟨hpatch, -⟩
    · exact e
    · simp [hr] at hs
    · subst hi; simp at hpatch
  · obtain ⟨-, -, hd⟩ := writeReg_sameTimingAndDesc hr h
    exact hd
  · rcases runAgent_sameTimingAndDesc ha h with ⟨-, -, e⟩ | ⟨hhost, w, i, hw, hdec, hx⟩
    · exact .inl e
    · rcases exec_desc hx with e | hsetup | ⟨hpatch, -⟩
      · exact .inl e
      · exact .inr ⟨hhost, w, i, hw, hdec, .inl hsetup, hx⟩
      · exact .inr ⟨hhost, w, i, hw, hdec, .inr hpatch, hx⟩

/-! ### DMA_SETUP (R195, R198) -/

/-- The command words of an opcode that the table assigns (R103, R104). -/
theorem commandWords_of_row {opc : Byte} {used : Word} {i : Word → Instr}
    (h : opcodeRow opc = some ⟨used, i⟩) : CommandWords opc used i := by
  intro w s hw
  have hdecode : decode w = if w &&& ~~~used = 0#32 then .ok (i w) else .error .reservedBits := by
    rw [decode, hw, h]
  by_cases hz : w &&& ~~~used = 0#32
  · simp only [runCommand, hdecode, if_pos hz]
  · simp only [runCommand, hdecode, if_neg hz, decodeCause]

theorem vValid_iff (t : Timing) : vValid t = true ↔
    1 ≤ t.vFp.toNat ∧ 1 ≤ t.vSync.toNat ∧ 1 ≤ t.vBp.toNat ∧ 1 ≤ t.vActive.toNat := by
  simp [vValid, and_assoc]

/-- Settles O23, by the three outcomes of DMA_SETUP. -/
theorem dmaSetupRule : Obligations.DmaSetupRule := by
  refine ⟨fun s => ?_, commandWords_of_row rfl⟩
  obtain ⟨t, ht⟩ := exec_completes .dmaSetup s
  have hh : (∀ w ∈ [s.timing.hFp, s.timing.hSync, s.timing.hBp, s.timing.hActive], 2 ≤ w.toNat ∧ w.toNat % 2 = 0) ↔
      hValid s.timing = true := by
    simp only [hValid_iff, List.forall_mem_cons, List.not_mem_nil, false_imp_iff, implies_true, and_true]
  dsimp only
  rw [hh, ← vValid_iff, ht]
  rcases execDmaSetup_cases ht with ⟨hr, rfl⟩ | ⟨hr, hv, rfl⟩ | ⟨hr, hv, hw, rfl⟩
  · simp [hr]
  · simp_all
  · exact ⟨fun _ _ _ => ⟨_, rfl⟩, fun h => by simp [hr] at h, fun _ h => absurd ⟨hv, hw⟩ h⟩

/-- DMA_SETUP that is not refused builds DESC from the configuration (R195). -/
theorem desc_of_dmaSetup {s t : State} (h : exec .dmaSetup s = .next t) (hr : s.ctrl.run = false)
    (hv : vValid s.timing = true) (hh : hValid s.timing = true) :
    t.desc = buildDesc s.params s.timing s.txDst := by
  rcases execDmaSetup_cases h with ⟨hr', -⟩ | ⟨-, hn, -⟩ | ⟨-, -, -, rfl⟩
  · simp [hr] at hr'
  · simp [hv, hh] at hn
  · rfl

/-- The VALID slots of a built list are the slots its lanes use (R190, R195). -/
theorem dctrlValid_buildDesc (p : Params) (t : Timing) (dst : Lanes Word) (list : LineState) (l : Lane) (b : Slot) :
    dctrlValid (descAt (buildDesc p t dst) list l b).dctrl = slotUsed l b := by
  cases list <;> cases l <;> cases b <;>
    simp only [descAt, Lists.get, Lanes.get, Slots.get, buildDesc, buildList, buildLane0, buildLane12] <;> decide

/-- The COUNTs of the VALID slots among `bs` are the words of the slots used. -/
theorem sum_valid_counts (p : Params) (t : Timing) (dst : Lanes Word) (list : LineState) (l : Lane) (bs : List Slot) :
    (((bs.map fun b => descAt (buildDesc p t dst) list l b).filter fun d => dctrlValid d.dctrl).map
      fun d => d.count.toNat).sum = slotWords (buildDesc p t dst) list l (bs.filter (slotUsed l)) := by
  have hvalid : ((fun d : Descriptor => dctrlValid d.dctrl) ∘ fun b => descAt (buildDesc p t dst) list l b) =
      slotUsed l := funext fun b => dctrlValid_buildDesc p t dst list l b
  rw [List.filter_map, hvalid, List.map_map]
  rfl

theorem slotWords_append (d : DescRam) (list : LineState) (l : Lane) (bs cs : List Slot) :
    slotWords d list l (bs ++ cs) = slotWords d list l bs + slotWords d list l cs := by
  simp only [slotWords, List.map_append, List.sum_append]

/-- The slots a lane uses, in order. -/
theorem filter_slotUsed (l : Lane) :
    [Slot.slot0, .slot1, .slot2, .slot3].filter (slotUsed l) = .slot0 :: slotsAfter l .slot0 := by cases l <;> rfl

/-- The slots of a lane's inactive period are those before its active-region slot (R194). -/
theorem inactiveSlots_append (l : Lane) :
    (if l = .lane0 then [Slot.slot0, .slot1, .slot2] else [.slot0]).filter (slotUsed l) ++ [activeSlot l] =
      .slot0 :: slotsAfter l .slot0 := by cases l <;> rfl

/-- Settles O28: the VALID slots are the used ones, whose words make one line; the inactive period is that line less
the active-region slot. -/
theorem laneSumsAreOneLine : Obligations.LaneSumsAreOneLine := by
  intro s t h hr hv hh list l
  have hbuilt := buildDesc_built s.params s.timing s.txDst hh
  obtain ⟨⟨-, h1⟩, ⟨-, h2⟩, ⟨-, h3⟩, ⟨-, h4⟩⟩ := (hValid_iff s.timing).mp hh
  have hline : slotWords (buildDesc s.params s.timing s.txDst) list l (.slot0 :: slotsAfter l .slot0) =
      lineWords s.timing := hbuilt.words list l
  have hactive := hbuilt.active_words list l
  have hsplit := congrArg (slotWords (buildDesc s.params s.timing s.txDst) list l) (inactiveSlots_append l)
  rw [slotWords_append, hline, lineWords] at hsplit
  dsimp only
  rw [desc_of_dmaSetup h hr hv hh, sum_valid_counts, sum_valid_counts, filter_slotUsed]
  refine ⟨hline, ?_⟩
  simp only [slotWords, List.map_cons, List.map_nil, List.sum_cons, List.sum_nil] at hsplit ⊢
  omega

end Sys2Proof.Machine

/-! ## The engine's stream, RESET and WAIT_IRQ -/

namespace Sys2Proof.Machine

/-! ### What a FETCHER read appends (R224) -/

theorem completeLane_frame {l : Lane} {x : State} {cross : Bool} {r : State × Bool}
    (h : completeLane l (x, cross) = some r) : slotFrame x r.1 := by
  rcases completeLane_cases h with ⟨-, rfl⟩ | ⟨-, -, rfl⟩ | ⟨-, -, b, -, rfl⟩
  · rfl
  · exact slotFrame_flagBlock ..
  · exact (slotFrame_flagBlock ..).trans (slotFrame_loadLane ..)

theorem slotDone_fifo {m t : State} (h : slotDone m = .next t) : t.fifo = m.fifo := by
  obtain ⟨r0, r1, r2, h0, h1, h2, rfl⟩ := slotDone_eq_next_iff.mp h
  have hframe := ((completeLane_frame h0).trans (completeLane_frame h1)).trans (completeLane_frame h2)
  have hfifo : r2.1.fifo = m.fifo := by rw [hframe]; rfl
  split
  · exact hfifo
  · exact hfifo

/-- A FETCHER read appends the word it reads to its lane's FIFO, or faults and appends nothing. -/
theorem fetchRead_fifo {s t : State} (h : fetchRead s = .next t) :
    (memRead s (s.fetcher.lanes.get s.fetcher.fk).addr = .busError ∧ t.fifo = s.fifo) ∨
      ∃ w, memRead s (s.fetcher.lanes.get s.fetcher.fk).addr = .word w ∧
        t.fifo = s.fifo.set s.fetcher.fk (s.fifo.get s.fetcher.fk ++ [w]) := by
  rcases fetchRead_cases h with ⟨hm, rfl⟩ | ⟨w, hm, -, ⟨-, rfl⟩ | ⟨hl, hd⟩⟩
  · exact .inl ⟨hm, rfl⟩
  · exact .inr ⟨w, hm, rfl⟩
  · refine .inr ⟨w, hm, ?_⟩
    rw [hl, slotDone_fifo hd, pushWord_fifo]

/-! ### The stream of a lane (R238) -/

/-- OUT followed by what the FIFO holds, on one lane. -/
def laneStream (s : State) (l : Lane) : List Pair := (s.out.map fun p => p.get l) ++ (s.fifo.get l).map emitBits

/-- The agent's step is an enabled FETCHER read of the word `w` for lane `l`. -/
def readsWord (a : Agent) (s : State) (l : Lane) (w : Word) : Prop :=
  a = .fetcher ∧ fetchEnabled s = true ∧ s.fetcher.fk = l ∧ memRead s (s.fetcher.lanes.get l).addr = .word w

theorem emitBits_toNat (w : Word) : (emitBits w).toNat = w.toNat % 2 ^ 20 := by
  rw [emitBits, BitVec.extractLsb'_toNat, Nat.shiftRight_zero]

theorem laneStream_congr {s t : State} (hout : t.out = s.out) (hfifo : t.fifo = s.fifo) (l : Lane) :
    laneStream t l = laneStream s l := by
  rw [laneStream, laneStream, hout, hfifo]

/-- No HOST step changes OUT or the FIFOs: the start empties FIFOs that a stopped engine has empty already. -/
theorem hostStep_out_fifo {s t : State} (hi : EngineInv s) (h : hostStep s = .next t) :
    t.out = s.out ∧ t.fifo = s.fifo := by
  rcases hostStep_cases h with ⟨e, -⟩ | ⟨-, rfl⟩ | ⟨off, v, -, hw⟩ | ⟨width, addr, v, -, -, rfl⟩
  · rw [e]; exact ⟨rfl, rfl⟩
  · exact ⟨rfl, rfl⟩
  · rcases regWrite_cases hw with rfl | rfl | rfl | ⟨-, i, -, hx⟩ | ⟨c, rfl⟩ | rfl | rfl | ⟨r, rfl⟩
      <;> try exact ⟨rfl, rfl⟩
    · rcases writeCtrl_cases v (dropHostOp s) with e | ⟨-, e⟩ | ⟨hr, -, -, -, e⟩ <;> rw [e]
      · exact ⟨rfl, rfl⟩
      · exact ⟨rfl, rfl⟩
      · obtain ⟨-, hfifo, -⟩ := hi.stopped hr
        exact ⟨rfl, hfifo.symm⟩
    · rw [exec_frame hx]; exact ⟨rfl, rfl⟩
    · rcases writeCfg_cases r v (dropHostOp s) with ⟨-, e⟩ | ⟨-, e⟩ <;> rw [e]
      · exact ⟨rfl, rfl⟩
      · rw [storeCfg_eq]; exact ⟨rfl, rfl⟩
  · exact ⟨rfl, rfl⟩

theorem emitTriple_laneStream {s : State} (h : emitEnabled s = true) (l : Lane) :
    laneStream (emitTriple s) l = laneStream s l := by
  obtain ⟨-, -, w0, q0, w1, q1, w2, q2, hq, e⟩ := emit_cases h
  rw [e]
  unfold laneStream
  rw [hq, List.map_append, List.append_assoc]
  cases l <;> rfl

/-- A FETCHER step appends the word it reads to its lane's stream, and leaves the other streams alone. -/
theorem fetchRead_laneStream {s t : State} (hf : fetchEnabled s = true) (h : fetchRead s = .next t) (l : Lane) :
    (∃ w, readsWord .fetcher s l w ∧ laneStream t l = laneStream s l ++ [emitBits w]) ∨
      ((∀ w, ¬ readsWord .fetcher s l w) ∧ laneStream t l = laneStream s l) := by
  have hout : t.out = s.out := by rw [fetchRead_frame h]
  rcases fetchRead_fifo h with ⟨hm, hfifo⟩ | ⟨w, hm, hfifo⟩
  · refine .inr ⟨fun w hw => ?_, laneStream_congr hout hfifo l⟩
    obtain ⟨-, -, rfl, hword⟩ := hw
    simp [hm] at hword
  · by_cases hl : s.fetcher.fk = l
    · subst hl
      refine .inl ⟨w, ⟨rfl, hf, rfl, hm⟩, ?_⟩
      rw [laneStream, laneStream, hout, hfifo, Lanes.get_set_self, List.map_append, List.append_assoc]
      rfl
    · refine .inr ⟨fun w hw => hl hw.2.2.1, ?_⟩
      rw [laneStream, laneStream, hout, hfifo, Lanes.get_set_ne _ _ (Ne.symm hl)]

/-- Every step but RESET's: the stream of a lane grows by the word read for it, or stays. -/
theorem runAgent_laneStream {a : Agent} {s t : State} (hi : Inv s) (ha : a ≠ .reset)
    (h : runAgent a s = .next t) (l : Lane) :
    (∃ w, readsWord a s l w ∧ laneStream t l = laneStream s l ++ [emitBits w]) ∨
      ((∀ w, ¬ readsWord a s l w) ∧ laneStream t l = laneStream s l) := by
  cases a with
  | host =>
    obtain ⟨hout, hfifo⟩ := hostStep_out_fifo hi.engine h
    exact .inr ⟨fun w hw => Agent.noConfusion hw.1, laneStream_congr hout hfifo l⟩
  | fetcher =>
    rcases runAgent_fetcher_cases h with ⟨hf, hread⟩ | ⟨hf, rfl⟩
    · exact fetchRead_laneStream hf hread l
    · exact .inr ⟨fun w hw => hf hw.2.1, rfl⟩
  | emitter =>
    refine .inr ⟨fun w hw => Agent.noConfusion hw.1, ?_⟩
    rcases runAgent_emitter_cases h with ⟨he, rfl⟩ | ⟨-, rfl⟩
    · exact emitTriple_laneStream he l
    · rfl
  | reset => exact absurd rfl ha
  | otherCore width addr v =>
    refine .inr ⟨fun w hw => Agent.noConfusion hw.1, ?_⟩
    cases h
    rcases otherCoreWrite_cases width addr v s with ⟨-, -, e⟩ | e <;> rw [e]
    rfl

/-- Settles O57: each step is a read of one word for the lane, which its stream gains, or leaves the stream alone. -/
theorem outIsInFetchOrder : Obligations.OutIsInFetchOrder := by
  intro a s t hi ha h l
  rcases runAgent_laneStream hi ha h l with ⟨w, hw, hs⟩ | ⟨hn, hs⟩
  · refine ⟨fun v hv => ⟨emitBits_toNat v, ?_⟩, fun hn => absurd hw (hn w)⟩
    have hvw : v = w := by
      obtain ⟨-, -, -, hmv⟩ := hv
      obtain ⟨-, -, -, hmw⟩ := hw
      exact FetchResult.word.inj (hmv.symm.trans hmw)
    rw [hvw]
    exact hs
  · exact ⟨fun v hv => absurd hv (hn v), fun _ => hs⟩

/-! ### What the engine does not read (R239) -/

/-- The fields the engine does not read: VSTATE, VCTR, BIT_CLK_KHZ, TX_DST, and DESC for its DST words. -/
structure UnreadFields where
  vstate : LineState
  vctr : Word
  bitClkKhz : Word
  txDst : Lanes Word
  desc : DescRam

/-- The state with other values in those fields. -/
def withUnread (u : UnreadFields) (x : State) : State :=
  { x with
    vstate := u.vstate
    vctr := u.vctr
    timing := { x.timing with bitClkKhz := u.bitClkKhz }
    txDst := u.txDst
    desc := u.desc }

/-- The two descriptor RAMs differ at most in DST words. -/
def sameButDst (d e : DescRam) : Prop :=
  ∀ list l b, descAt e list l b = { descAt d list l b with dst := (descAt e list l b).dst }

/-- A load does not copy DST (R223). -/
theorem sameButDst.snapshot {d e : DescRam} (h : sameButDst d e) (list : LineState) (l : Lane) (b : Slot) :
    snapshot e list l b = snapshot d list l b := by
  rw [Machine.snapshot, h list l b]
  rfl

theorem sameButDst.loadFirstSlots {d e : DescRam} (h : sameButDst d e) (list : LineState) :
    loadFirstSlots e list = loadFirstSlots d list := by
  simp only [Machine.loadFirstSlots, h.snapshot]

/-- Where the registers stand whose value is not read: VSTATE, VCTR, BIT_CLK_KHZ, TX_DST, and DESC's DST words. -/
def unreadOffset (off : Nat) : Prop :=
  off ∈ [0x01C, 0x020, 0x064, 0x068, 0x06C, 0x070] ∨ (0x400 ≤ off ∧ off < 0x700 ∧ off % 0x10 = 4)

theorem unreadOffset_dst (list : LineState) (l : Lane) (b : Slot) :
    unreadOffset (regOffset (.desc list l b .dst)).toNat := by
  have hlt := descDistance_lt list l b .dst
  have hmod : descDistance list l b .dst % 0x10 = 4 := by
    simp only [descDistance, descWordNumber]
    omega
  rw [regOffset_desc_toNat]
  exact .inr (by omega)

/-- A window read of any other register is the same. -/
theorem regRead_withUnread {u : UnreadFields} {s : State} (hu : sameButDst s.desc u.desc) {off : Offset}
    (h : ¬ unreadOffset off.toNat) : regRead (withUnread u s) off = regRead s off := by
  cases hr : regAt off with
  | none => rw [regRead_unmapped hr, regRead_unmapped hr]
  | some r =>
    have hoff := regOffset_of_regAt hr
    subst hoff
    rw [regRead_regOffset, regRead_regOffset]
    cases r with
    | vstate => exact absurd (.inl (by decide)) h
    | vctr => exact absurd (.inl (by decide)) h
    | cfg r => cases r with
      | bitClkKhz => exact absurd (.inl (by decide)) h
      | txDst l => exact absurd (.inl (by cases l <;> decide)) h
      | _ => rfl
    | desc list l b w =>
      have hd := hu list l b
      cases w with
      | dst => exact absurd (unreadOffset_dst list l b) h
      | src => exact (congrArg Descriptor.src hd :)
      | count => exact (congrArg Descriptor.count hd :)
      | dctrl => exact (congrArg Descriptor.dctrl hd :)
    | _ => rfl

theorem memRead_withUnread {u : UnreadFields} {s : State} (hu : sameButDst s.desc u.desc) {addr : Word}
    (h : inWindow s.params addr = true → ¬ unreadOffset (windowOffset addr).toNat) :
    memRead (withUnread u s) addr = memRead s addr := by
  have hp : (withUnread u s).params = s.params := rfl
  rw [memRead, memRead, hp]
  by_cases hin : inWindow s.params addr = true
  · rw [regRead_withUnread hu (h hin)]
    rfl
  · rw [if_neg hin, if_neg hin]
    rfl

theorem loadLane_withUnread {u : UnreadFields} {x : State} (hu : sameButDst x.desc u.desc) (l : Lane) (b : Slot) :
    loadLane l b (withUnread u x) = withUnread u (loadLane l b x) := by
  simp only [loadLane, withUnread, hu.snapshot]

theorem lineCross_withUnread {u : UnreadFields} {x : State} (hu : sameButDst x.desc u.desc) :
    lineCross (withUnread u x) = withUnread u (lineCross x) := by
  simp only [lineCross, withUnread, hu.loadFirstSlots]

/-- A lane whose block has words left is left as it is (R225). -/
theorem completeLane_of_words {l : Lane} {x : State} (cross : Bool) (hrem : (x.fetcher.lanes.get l).rem ≠ 0#32) :
    completeLane l (x, cross) = some (x, cross) := by
  simp only [completeLane, if_neg hrem]

/-- The end of a lane's last block asks for the crossing (R225). -/
theorem completeLane_of_last {l : Lane} {x : State} (cross : Bool) (hrem : (x.fetcher.lanes.get l).rem = 0#32)
    (hlast : dctrlLast (x.fetcher.lanes.get l).dc = true) :
    completeLane l (x, cross) = some (flagBlock (x.fetcher.lanes.get l) x, true) := by
  simp only [completeLane, if_pos hrem, if_pos hlast, flagBlock]

/-- The end of another block loads the lane's next slot (R225). -/
theorem completeLane_of_next {l : Lane} {x : State} {b : Slot} (cross : Bool)
    (hrem : (x.fetcher.lanes.get l).rem = 0#32) (hlast : dctrlLast (x.fetcher.lanes.get l).dc = false)
    (hb : nextSlot (x.fetcher.lanes.get l).slot = some b) :
    completeLane l (x, cross) = some (loadLane l b (flagBlock (x.fetcher.lanes.get l) x), cross) := by
  simp [completeLane, hrem, hlast, hb, flagBlock]

theorem completeLane_withUnread {u : UnreadFields} {x : State} (hu : sameButDst x.desc u.desc) {l : Lane}
    {cross : Bool} {r : State × Bool} (h : completeLane l (x, cross) = some r) :
    completeLane l (withUnread u x, cross) = some (withUnread u r.1, r.2) := by
  rcases completeLane_cases h with ⟨hrem, rfl⟩ | ⟨hrem, hlast, rfl⟩ | ⟨hrem, hlast, b, hb, rfl⟩
  · exact completeLane_of_words cross hrem
  · exact completeLane_of_last cross hrem hlast
  · have hload := loadLane_withUnread (x := flagBlock (x.fetcher.lanes.get l) x) hu l b
    exact (completeLane_of_next (x := withUnread u x) cross hrem hlast hb).trans (congrArg (fun y => some (y, cross)) hload)

theorem slotDone_withUnread {u : UnreadFields} {m t : State} (hu : sameButDst m.desc u.desc)
    (h : slotDone m = .next t) : slotDone (withUnread u m) = .next (withUnread u t) := by
  obtain ⟨r0, r1, r2, h0, h1, h2, rfl⟩ := slotDone_eq_next_iff.mp h
  have f0 := completeLane_frame h0
  have f1 := f0.trans (completeLane_frame h1)
  have f2 := f1.trans (completeLane_frame h2)
  have d0 : r0.1.desc = m.desc := by rw [f0]; rfl
  have d1 : r1.1.desc = m.desc := by rw [f1]; rfl
  have d2 : r2.1.desc = m.desc := by rw [f2]; rfl
  refine slotDone_eq_next_iff.mpr ⟨_, _, _, completeLane_withUnread (x := countSlot m) hu h0,
    completeLane_withUnread (d0 ▸ hu) h1, completeLane_withUnread (d1 ▸ hu) h2, ?_⟩
  split
  · exact (lineCross_withUnread (d2 ▸ hu)).symm
  · rfl

theorem fetchRead_of_busError {s : State} (h : memRead s (s.fetcher.lanes.get s.fetcher.fk).addr = .busError) :
    fetchRead s = .next (txFault s) := by
  simp only [fetchRead, h]

theorem fetchRead_of_word {s : State} {w : Word}
    (h : memRead s (s.fetcher.lanes.get s.fetcher.fk).addr = .word w)
    (hrem : (s.fetcher.lanes.get s.fetcher.fk).rem ≠ 0#32) :
    fetchRead s = if s.fetcher.fk = .lane2 then slotDone (pushWord s.fetcher.fk w s)
      else .next (pushWord s.fetcher.fk w s) := by
  simp only [fetchRead, h, if_neg hrem]

theorem fetchRead_withUnread {u : UnreadFields} {s t : State} (hu : sameButDst s.desc u.desc)
    (hoff : inWindow s.params (s.fetcher.lanes.get s.fetcher.fk).addr = true →
      ¬ unreadOffset (windowOffset (s.fetcher.lanes.get s.fetcher.fk).addr).toNat)
    (h : fetchRead s = .next t) : fetchRead (withUnread u s) = .next (withUnread u t) := by
  have hread := memRead_withUnread hu hoff
  rcases fetchRead_cases h with ⟨hm, rfl⟩ | ⟨w, hm, hrem, ⟨hl, rfl⟩ | ⟨hl, hd⟩⟩
  · exact fetchRead_of_busError (hread.trans hm)
  · exact (fetchRead_of_word (hread.trans hm) hrem).trans (if_neg hl)
  · have hdone := slotDone_withUnread (m := pushWord .lane2 w s) hu hd
    rw [← hl] at hdone
    exact (fetchRead_of_word (hread.trans hm) hrem).trans ((if_pos hl).trans hdone)

theorem emitTriple_withUnread {u : UnreadFields} {s : State} (h : emitEnabled s = true) :
    emitTriple (withUnread u s) = withUnread u (emitTriple s) := by
  have hu : emitEnabled (withUnread u s) = true := h
  obtain ⟨-, -, w0, q0, w1, q1, w2, q2, hq, e⟩ := emit_cases h
  unfold emitTriple
  rw [show (withUnread u s).fifo = s.fifo from rfl, hq]
  rfl

/-- Settles O52: a FETCHER and an EMITTER step commute with writing other values to the unread fields. -/
theorem engineIgnoresTimingState : Obligations.EngineIgnoresTimingState := by
  intro s t vs vc khz dst d hd
  let u : UnreadFields := ⟨vs, vc, khz, dst, d⟩
  have hu : sameButDst s.desc u.desc := hd
  have hf : fetchEnabled (withUnread u s) = fetchEnabled s := rfl
  have he : emitEnabled (withUnread u s) = emitEnabled s := rfl
  refine ⟨fun hoff h => ?_, fun h => ?_⟩
  · show runAgent .fetcher (withUnread u s) = .next (withUnread u t)
    rcases runAgent_fetcher_cases h with ⟨hen, hread⟩ | ⟨hno, rfl⟩
    · exact (if_pos (hf.trans hen)).trans
        (fetchRead_withUnread hu (fun hin hun => hun.elim (hoff hin).1 (hoff hin).2) hread)
    · exact if_neg (hf ▸ hno)
  · show runAgent .emitter (withUnread u s) = .next (withUnread u t)
    rcases runAgent_emitter_cases h with ⟨hen, rfl⟩ | ⟨hno, rfl⟩
    · exact (if_pos (he.trans hen)).trans (congrArg _ (emitTriple_withUnread hen))
    · exact if_neg (he ▸ hno)

/-! ### RESET and WAIT_IRQ -/

/-- Settles O59, field by field. -/
theorem resetStepRule : Obligations.ResetStepRule := by
  intro s
  have hctrl : ctrlWord State.reset.ctrl = 0#32 := by decide
  have hstatus : statusWord State.reset.status = 0#32 := by decide
  refine ⟨resetBlock s, rfl, rfl, rfl, rfl, hctrl, hstatus, rfl, rfl, rfl, rfl, rfl, rfl, rfl, rfl, rfl, rfl,
    fun r => ?_, fun list l b => ?_, rfl, rfl, fun l => ?_, fun l => ?_, rfl, rfl⟩
  · cases r with
    | txDst l => cases l <;> rfl
    | _ => rfl
  · cases list <;> cases l <;> cases b <;> rfl
  · cases l <;> rfl
  · cases l <;> rfl

/-- Settles O60: with WAIT_IRQ next, the HOST is ready exactly where the IRQ output is 1. -/
theorem waitIrqRule : Obligations.WaitIrqRule := by
  intro s rest hstuck hhold hprog
  have hready : hostReady s = irqOutput s := by
    simp only [hostReady, hstuck, hhold, hprog, hostOpReady]
    rfl
  refine ⟨fun hirq hen => ?_, fun hoff => ?_⟩
  · have hout : irqOutput s = true := by rw [irqOutput, hirq, hen]; rfl
    simp [runAgent, hostStep, hready, hout, hhold, hprog, runHostOp, dropHostOp]
  · have hout : irqOutput s = false := by
      rw [irqOutput, Bool.and_eq_false_iff]
      exact hoff
    rw [runAgent, hostStep, if_pos (hready.trans hout)]

end Sys2Proof.Machine

/-! ## The HOST's accesses to the window and to system memory -/

namespace Sys2Proof.Machine

/-! ### Window accesses the bus refuses (R74, R264) -/

theorem windowAccessOk_iff (width : AccessWidth) (off : Offset) :
    windowAccessOk width off = true ↔ width = .word ∧ off.toNat % 4 = 0 := by
  rw [windowAccessOk, Bool.and_eq_true, beq_iff_eq, beq_iff_eq]

theorem hostRead_refused {width : AccessWidth} {off : Offset} (h : ¬ windowAccessOk width off = true) (s : State) :
    hostRead width off s = busFault s := by
  rw [hostRead, if_neg h]

theorem hostWrite_refused {width : AccessWidth} {off : Offset} (h : ¬ windowAccessOk width off = true) (v : Word)
    (s : State) : hostWrite width off v s = .next (busFault s) := by
  rw [hostWrite, if_neg h]

/-- A HOST write the bus takes is a register write (R76). -/
theorem hostWrite_word {off : Offset} (h : off.toNat % 4 = 0) (v : Word) (s : State) :
    hostWrite .word off v s = regWrite off v s := by
  rw [hostWrite, if_pos ((windowAccessOk_iff .word off).mpr ⟨rfl, h⟩)]

theorem hostReady_of_stuck {s : State} (h : s.host.stuck = true) : hostReady s = false := by
  rw [hostReady, h, Bool.not_true, Bool.false_and]

/-- Settles O44: the bus refuses every access but an aligned 32-bit one, and a stuck HOST is never ready. -/
theorem busFaultSticksTheHost : Obligations.BusFaultSticksTheHost := by
  refine ⟨fun s width off v h => ?_, fun s hstuck => ?_⟩
  · have hrefused : ¬ windowAccessOk width off = true := (windowAccessOk_iff width off).not.mpr h
    exact ⟨hostRead_refused hrefused s, hostWrite_refused hrefused v s⟩
  · rw [runAgent, hostStep, if_pos (hostReady_of_stuck hstuck)]

/-! ### A step in which the HOST makes its next access (R78, R81) -/

/-- A free HOST is ready exactly where its next access may be made. -/
theorem hostReady_of_program {s : State} {op : HostOp} {rest : List HostOp} (hstuck : s.host.stuck = false)
    (hhold : s.host.holding = false) (hprog : s.host.program = op :: rest) : hostReady s = hostOpReady s op := by
  simp [hostReady, hstuck, hhold, hprog]

/-- A free HOST makes its next access, with its program moved past it. -/
theorem hostStep_of_program {s : State} {op : HostOp} {rest : List HostOp} (hstuck : s.host.stuck = false)
    (hhold : s.host.holding = false) (hprog : s.host.program = op :: rest) (hop : hostOpReady s op = true) :
    hostStep s = runHostOp op (dropHostOp s) := by
  have hready := (hostReady_of_program hstuck hhold hprog).trans hop
  simp [hostStep, hready, hhold, hprog]

/-- The HOST moves next where the agenda names it, and past the agenda's end where it is ready (log 2). -/
theorem nextAgent_host {s : State} (hagenda : s.agenda = [] ∨ s.agenda.head? = some .host)
    (hready : hostReady s = true) : nextAgent s = some .host := by
  rcases hagenda with hnil | hhead
  · simp only [nextAgent, hnil, if_pos hready]
  · obtain ⟨rest, hrest⟩ := List.head?_eq_some_iff.mp hhead
    simp only [nextAgent, hrest]

theorem step_of_nextAgent {s : State} {a : Agent} (h : nextAgent s = some a) :
    step s = runAgent a (dropAgenda s) := by
  simp only [step, h]

theorem runCommand_of_decode {w : Word} {i : Instr} (h : decode w = .ok i) (s : State) :
    runCommand w s = exec i s := by
  simp only [runCommand, h]

/-- A 32-bit HOST write to CMD runs the command word (R100). -/
theorem runHostOp_writeCmd (w : Word) (s : State) :
    runHostOp (.write .word 0x008#12 w) s = runCommand w s :=
  (hostWrite_word (by decide) w s).trans (regWrite_regOffset .cmd w s)

/-- Settles O5: the HOST moves next, its access is the write to CMD, and that write runs the word. -/
theorem stepRunsDecodedCommand : Obligations.StepRunsDecodedCommand := by
  intro s w rest hagenda hstuck hhold hprog ready
  have hready : hostReady s = true := hostReady_of_program hstuck hhold hprog
  have hdrop : dropHostOp (dropAgenda s) = ready := by
    simp only [dropHostOp, dropAgenda, hprog, List.tail_cons, ready]
  have hstep : step s = runCommand w ready := calc
    step s = hostStep (dropAgenda s) := step_of_nextAgent (nextAgent_host hagenda hready)
    _ = runHostOp (.write .word 0x008#12 w) (dropHostOp (dropAgenda s)) :=
      hostStep_of_program (s := dropAgenda s) hstuck hhold hprog rfl
    _ = runCommand w ready := by rw [hdrop, runHostOp_writeCmd]
  exact ⟨hstep, fun i hi _ => hstep.trans (runCommand_of_decode hi ready)⟩

/-! ### The FETCHER's reads (R80) -/

theorem wordAligned_iff (addr : Word) : wordAligned addr = true ↔ addr.toNat % 4 = 0 := by
  rw [wordAligned, beq_iff_eq]

theorem memRead_outsideWindow {s : State} {addr : Word} (ha : addr.toNat % 4 = 0)
    (hw : inWindow s.params addr = false) :
    memRead s addr = if memAdmits s.params addr = true then .word (memWord s addr.toNat) else .busError := by
  simp [memRead, (wordAligned_iff addr).mpr ha, hw]

/-- Settles O49: the read answers a bus error, and the step is the TxFault it raises. -/
theorem fetchOutsideAdmitFaults : Obligations.FetchOutsideAdmitFaults := by
  intro s hen addr ha hw hadmit
  have hread : memRead s addr = .busError := by
    rw [memRead_outsideWindow ha hw, if_neg (Bool.eq_false_iff.mp hadmit)]
  rw [runAgent, if_pos hen, fetchRead_of_busError hread]
  rfl

/-! ### Stores to system memory (R13, R72, R274) -/

theorem hostMemWrite_outsideWindow {s : State} {width : AccessWidth} {addr : Word} (v : Word)
    (hw : inWindow s.params addr = false) (ha : addr.toNat % width.bytes = 0) :
    hostMemWrite width addr v s = .next (storeMem width addr v s) := by
  rw [hostMemWrite, if_neg (Bool.eq_false_iff.mp hw), if_pos ha]

theorem otherCoreWrite_store {s : State} {width : AccessWidth} {addr : Word} (v : Word)
    (hw : inWindow s.params addr = false) (ha : addr.toNat % width.bytes = 0) :
    otherCoreWrite width addr v s = storeMem width addr v s :=
  if_pos ⟨hw, ha⟩

theorem otherCoreWrite_none {s : State} {width : AccessWidth} {addr : Word} (v : Word)
    (h : inWindow s.params addr = true ∨ addr.toNat % width.bytes ≠ 0) : otherCoreWrite width addr v s = s :=
  if_neg fun ⟨hw, ha⟩ => h.elim (Bool.eq_false_iff.mp hw) (· ha)

/-- An aligned 32-bit store reads back as the word stored (R72). -/
theorem memWord_storeMem {addr : Word} (v : Word) {s : State} (hm : memCanonical s = true)
    (h : addr.toNat % AccessWidth.word.bytes = 0) : memWord (storeMem .word addr v s) addr.toNat = v :=
  Memory.readWord_writeBytes hm v (store_bound h)

/-- Settles O45: both writes are the store, whose bytes and whose frame are the laws of system memory. -/
theorem hostMemoryWrite : Obligations.HostMemoryWrite := by
  refine ⟨fun s width addr v hm hw ha => ?_, fun s width addr v h => ?_⟩
  · refine ⟨storeMem width addr v s, hostMemWrite_outsideWindow v hw ha,
      congrArg _ (otherCoreWrite_store v hw ha), rfl, memCanonical_storeMem v hm ha,
      fun k hk => memByte_storeMem_inside v hm ha hk, fun a houtside => memByte_storeMem_outside houtside, ?_⟩
    rintro rfl hadmit
    have hread := memRead_outsideWindow (s := storeMem .word addr v s) ha hw
    rw [hread, storeMem_params, if_pos hadmit, memWord_storeMem v hm ha]
  · exact congrArg _ (otherCoreWrite_none v h)

end Sys2Proof.Machine

/-! ## The command decoder and encoder -/

namespace Sys2Proof.Machine

/-! ### What the decoder answers (R104) -/

theorem decode_eq_ok_iff (w : Word) (i : Instr) : decode w = .ok i ↔
    ∃ row, opcodeRow (cmdOpc w) = some row ∧ w &&& ~~~row.usedMask = 0#32 ∧ row.instrOf w = i := by
  rw [decode]
  cases opcodeRow (cmdOpc w) with
  | none => simp
  | some row => by_cases hz : w &&& ~~~row.usedMask = 0#32 <;> simp [hz]

theorem decode_eq_reservedOpcode_iff (w : Word) :
    decode w = .error .reservedOpcode ↔ opcodeRow (cmdOpc w) = none := by
  rw [decode]
  cases opcodeRow (cmdOpc w) with
  | none => simp
  | some row => by_cases hz : w &&& ~~~row.usedMask = 0#32 <;> simp [hz]

theorem decode_eq_reservedBits_iff (w : Word) : decode w = .error .reservedBits ↔
    ∃ row, opcodeRow (cmdOpc w) = some row ∧ w &&& ~~~row.usedMask ≠ 0#32 := by
  rw [decode]
  cases opcodeRow (cmdOpc w) with
  | none => simp
  | some row => simp

/-! ### Decoding an encoded word, for each shape of the operands (R101, R102) -/

/-- A word with an assigned opcode and fields that fit the `k` low bits its opcode uses decodes. -/
theorem decode_cmdWord {opc f1 f2 : Byte} {g : Word → Instr} (k : Nat)
    (hrow : opcodeRow opc = some ⟨BitVec.ofNat 32 (2 ^ k - 1), g⟩)
    (hfit : opc.toNat + 2 ^ 8 * f1.toNat + 2 ^ 16 * f2.toNat < 2 ^ k) :
    decode (cmdWord opc f1 f2) = .ok (g (cmdWord opc f1 f2)) := by
  refine (decode_eq_ok_iff ..).mpr ⟨_, by rw [cmdOpc_cmdWord, hrow], ?_, rfl⟩
  rw [unused_bits_zero, cmdWord_toNat]
  exact Nat.div_eq_of_lt hfit

theorem decode_cmdWord_bare {opc : Byte} {i : Instr} (hrow : opcodeRow opc = some ⟨0x000000FF#32, fun _ => i⟩) :
    decode (cmdWord opc 0#8 0#8) = .ok i :=
  decode_cmdWord 8 hrow opc.isLt

theorem decode_cmdWord_byte {opc : Byte} {g : Byte → Instr}
    (hrow : opcodeRow opc = some ⟨0x0000FFFF#32, fun w => g (cmdF1 w)⟩) (b : Byte) :
    decode (cmdWord opc b 0#8) = .ok (g b) := by
  have hfit : opc.toNat + 2 ^ 8 * b.toNat + 2 ^ 16 * (0#8).toNat < 2 ^ 16 := by
    have := opc.isLt
    have := b.isLt
    simp only [BitVec.toNat_ofNat]
    omega
  rw [decode_cmdWord 16 hrow hfit, cmdF1_cmdWord]

theorem selField_toNat (c : BitVec 2) : (selField c).toNat = c.toNat := by
  rw [selField, BitVec.toNat_append]
  simp

theorem decode_cmdWord_sel {opc : Byte} {g : BitVec 2 → Instr}
    (hrow : opcodeRow opc = some ⟨0x000003FF#32, fun w => g (cmdSel w)⟩) (c : BitVec 2) :
    decode (cmdWord opc (selField c) 0#8) = .ok (g c) := by
  have hfit : opc.toNat + 2 ^ 8 * (selField c).toNat + 2 ^ 16 * (0#8).toNat < 2 ^ 10 := by
    have := opc.isLt
    have := c.isLt
    simp only [selField_toNat, BitVec.toNat_ofNat]
    omega
  rw [decode_cmdWord 10 hrow hfit, cmdSel_cmdWord]

theorem decode_cmdWord_pair {opc : Byte} {g : Byte → Byte → Instr}
    (hrow : opcodeRow opc = some ⟨0x00FFFFFF#32, fun w => g (cmdF1 w) (cmdF2 w)⟩) (b0 b1 : Byte) :
    decode (cmdWord opc b0 b1) = .ok (g b0 b1) := by
  have hfit : opc.toNat + 2 ^ 8 * b0.toNat + 2 ^ 16 * b1.toNat < 2 ^ 24 := by
    have := opc.isLt
    have := b0.isLt
    have := b1.isLt
    omega
  rw [decode_cmdWord 24 hrow hfit, cmdF1_cmdWord, cmdF2_cmdWord]

theorem decode_encode (i : Instr) : decode (encode i) = .ok i := by
  cases i with
  | nop => exact decode_cmdWord_bare rfl
  | enc b => exact decode_cmdWord_byte (g := .enc) rfl b
  | encPair b0 b1 => exact decode_cmdWord_pair (g := .encPair) rfl b0 b1
  | encApprox b => exact decode_cmdWord_byte (g := .encApprox) rfl b
  | ctrlSym c => exact decode_cmdWord_sel (g := .ctrlSym) rfl c
  | timReset => exact decode_cmdWord_bare rfl
  | timAdvance => exact decode_cmdWord_bare rfl
  | timIndex => exact decode_cmdWord_bare rfl
  | dmaSetup => exact decode_cmdWord_bare rfl
  | dmaUpdate => exact decode_cmdWord_bare rfl
  | txSubmit list =>
    have h := decode_cmdWord_sel (opc := 0x30#8) (g := fun c => .txSubmit (lineStateOfBits c)) rfl
      (lineStateBits list)
    rwa [lineStateOfBits_lineStateBits] at h
  | txSubmitActive => exact decode_cmdWord_bare rfl
  | txWait => exact decode_cmdWord_bare rfl

/-- Settles O1: each command decodes by the shape of its operands. -/
theorem decodeOfEncode : Obligations.DecodeOfEncode := fun i _ => decode_encode i

/-- Settles O4: each of the words is the encoding of its mnemonic. -/
theorem sampleWordsDecode : Obligations.SampleWordsDecode :=
  ⟨decode_encode (.enc 0x10#8), decode_encode (.encPair 0x00#8 0x01#8), decode_encode (.ctrlSym 3#2),
    decode_encode (.txSubmit .sync), decode_encode (.txSubmit .active), decode_encode .timAdvance,
    decode_encode .dmaUpdate⟩

/-! ### A word is made of its fields (R101) -/

theorem cmdOpc_toNat (w : Word) : (cmdOpc w).toNat = w.toNat % 2 ^ 8 := by
  rw [cmdOpc, BitVec.extractLsb'_toNat, Nat.shiftRight_zero]

theorem cmdF1_toNat (w : Word) : (cmdF1 w).toNat = w.toNat / 2 ^ 8 % 2 ^ 8 := by
  rw [cmdF1, BitVec.extractLsb'_toNat, Nat.shiftRight_eq_div_pow]

theorem cmdF2_toNat (w : Word) : (cmdF2 w).toNat = w.toNat / 2 ^ 16 % 2 ^ 8 := by
  rw [cmdF2, BitVec.extractLsb'_toNat, Nat.shiftRight_eq_div_pow]

theorem cmdSel_toNat (w : Word) : (cmdSel w).toNat = w.toNat / 2 ^ 8 % 2 ^ 2 := by
  rw [cmdSel, BitVec.extractLsb'_toNat, Nat.shiftRight_eq_div_pow]

/-- A word with the reserved field 31:24 zero is its opcode and its two fields. -/
theorem cmdWord_fields {w : Word} (h : w.toNat / 2 ^ 24 = 0) : cmdWord (cmdOpc w) (cmdF1 w) (cmdF2 w) = w := by
  refine BitVec.eq_of_toNat_eq ?_
  rw [cmdWord_toNat, cmdOpc_toNat, cmdF1_toNat, cmdF2_toNat]
  omega

theorem cmdF1_eq_zero {w : Word} (h : w.toNat / 2 ^ 8 = 0) : cmdF1 w = 0#8 := by
  refine BitVec.eq_of_toNat_eq ?_
  rw [cmdF1_toNat, h]
  rfl

theorem cmdF2_eq_zero {w : Word} (h : w.toNat / 2 ^ 16 = 0) : cmdF2 w = 0#8 := by
  refine BitVec.eq_of_toNat_eq ?_
  rw [cmdF2_toNat, h]
  rfl

theorem selField_cmdSel {w : Word} (h : w.toNat / 2 ^ 10 = 0) : selField (cmdSel w) = cmdF1 w := by
  refine BitVec.eq_of_toNat_eq ?_
  rw [selField_toNat, cmdSel_toNat, cmdF1_toNat]
  omega

/-! ### Encoding a decoded word, for each shape of the operands -/

theorem cmdWord_bare {w : Word} (h : w &&& ~~~0x000000FF#32 = 0#32) : cmdWord (cmdOpc w) 0#8 0#8 = w := by
  have hw : w.toNat / 2 ^ 8 = 0 := (unused_bits_zero w 8).mp h
  have hfields := cmdWord_fields (w := w) (by omega)
  rwa [cmdF1_eq_zero hw, cmdF2_eq_zero (by omega)] at hfields

theorem cmdWord_byte {w : Word} (h : w &&& ~~~0x0000FFFF#32 = 0#32) : cmdWord (cmdOpc w) (cmdF1 w) 0#8 = w := by
  have hw : w.toNat / 2 ^ 16 = 0 := (unused_bits_zero w 16).mp h
  have hfields := cmdWord_fields (w := w) (by omega)
  rwa [cmdF2_eq_zero hw] at hfields

theorem cmdWord_sel {w : Word} (h : w &&& ~~~0x000003FF#32 = 0#32) :
    cmdWord (cmdOpc w) (selField (cmdSel w)) 0#8 = w := by
  have hw : w.toNat / 2 ^ 10 = 0 := (unused_bits_zero w 10).mp h
  have hfields := cmdWord_fields (w := w) (by omega)
  rwa [← selField_cmdSel hw, cmdF2_eq_zero (by omega)] at hfields

theorem cmdWord_pair {w : Word} (h : w &&& ~~~0x00FFFFFF#32 = 0#32) :
    cmdWord (cmdOpc w) (cmdF1 w) (cmdF2 w) = w :=
  cmdWord_fields ((unused_bits_zero w 24).mp h)

/-! ### The assigned opcodes and the shapes of their rows (R103) -/

def assignedOpcodes : List Byte :=
  [0x00#8, 0x01#8, 0x02#8, 0x03#8, 0x04#8, 0x10#8, 0x11#8, 0x12#8, 0x20#8, 0x21#8, 0x30#8, 0x31#8, 0x32#8]

theorem opcodeRow_eq_none_iff (opc : Byte) : opcodeRow opc = none ↔ opc ∉ assignedOpcodes := by
  refine ⟨fun hnone hmem => ?_, fun hmem => ?_⟩
  · have hsome : ∀ o ∈ assignedOpcodes, (opcodeRow o).isSome = true := by decide
    simpa [hnone] using hsome opc hmem
  · simp only [assignedOpcodes, List.mem_cons, List.not_mem_nil, or_false, not_or] at hmem
    simp only [opcodeRow, hmem, if_false]

/-- An assigned opcode's row, by the operands it takes: the decoder's masks and fields and the encoder's word agree. -/
inductive OpcodeShape (opc : Byte) : Prop
  | bare (i : Instr) (row : opcodeRow opc = some ⟨0x000000FF#32, fun _ => i⟩)
      (word : encode i = cmdWord opc 0#8 0#8)
  | byte (g : Byte → Instr) (row : opcodeRow opc = some ⟨0x0000FFFF#32, fun w => g (cmdF1 w)⟩)
      (word : ∀ b, encode (g b) = cmdWord opc b 0#8)
  | sel (g : BitVec 2 → Instr) (row : opcodeRow opc = some ⟨0x000003FF#32, fun w => g (cmdSel w)⟩)
      (word : ∀ c, encode (g c) = cmdWord opc (selField c) 0#8)
  | pair (g : Byte → Byte → Instr) (row : opcodeRow opc = some ⟨0x00FFFFFF#32, fun w => g (cmdF1 w) (cmdF2 w)⟩)
      (word : ∀ b0 b1, encode (g b0 b1) = cmdWord opc b0 b1)

theorem opcodeShape_of_assigned : ∀ opc ∈ assignedOpcodes, OpcodeShape opc := by
  have hsubmit (c : BitVec 2) : encode (.txSubmit (lineStateOfBits c)) = cmdWord 0x30#8 (selField c) 0#8 := by
    rw [encode, lineStateBits_lineStateOfBits]
  simp only [assignedOpcodes, List.forall_mem_cons]
  exact ⟨.bare .nop rfl rfl, .byte .enc rfl fun _ => rfl, .pair .encPair rfl fun _ _ => rfl,
    .byte .encApprox rfl fun _ => rfl, .sel .ctrlSym rfl fun _ => rfl, .bare .timReset rfl rfl,
    .bare .timAdvance rfl rfl, .bare .timIndex rfl rfl, .bare .dmaSetup rfl rfl, .bare .dmaUpdate rfl rfl,
    .sel (fun c => .txSubmit (lineStateOfBits c)) rfl hsubmit, .bare .txSubmitActive rfl rfl,
    .bare .txWait rfl rfl, nofun⟩

theorem encode_instrOf {w : Word} {row : OpcodeRow} (hrow : opcodeRow (cmdOpc w) = some row)
    (hz : w &&& ~~~row.usedMask = 0#32) : encode (row.instrOf w) = w := by
  have hmem : cmdOpc w ∈ assignedOpcodes := by
    by_contra hmem
    simp [(opcodeRow_eq_none_iff _).mpr hmem] at hrow
  cases opcodeShape_of_assigned _ hmem with
  | bare i hr hw => cases hr.symm.trans hrow; exact hw.trans (cmdWord_bare hz)
  | byte g hr hw => cases hr.symm.trans hrow; exact (hw _).trans (cmdWord_byte hz)
  | sel g hr hw => cases hr.symm.trans hrow; exact (hw _).trans (cmdWord_sel hz)
  | pair g hr hw => cases hr.symm.trans hrow; exact (hw _ _).trans (cmdWord_pair hz)

theorem instr_wf (i : Instr) : i.wf = true := by cases i <;> rfl

/-- Settles O2: the command is its row's reading of the word, and the row's shape gives the word back. -/
theorem encodeOfDecode : Obligations.EncodeOfDecode := by
  intro w i h
  obtain ⟨row, hrow, hz, rfl⟩ := (decode_eq_ok_iff w i).mp h
  exact ⟨instr_wf _, encode_instrOf hrow hz⟩

/-! ### Which words are refused (R104) -/

/-- How many of its low bits a word with this assigned opcode uses (R103). -/
def usedBits (opc : Nat) : Nat :=
  if opc = 0x01 ∨ opc = 0x03 then 16
  else if opc = 0x02 then 24
  else if opc = 0x04 ∨ opc = 0x30 then 10
  else 8

theorem usedMask_of_assigned : ∀ opc ∈ assignedOpcodes,
    (opcodeRow opc).map OpcodeRow.usedMask = some (BitVec.ofNat 32 (2 ^ usedBits opc.toNat - 1)) := by decide

/-- The opcode is assigned, and a bit above those it uses is set. -/
theorem decode_eq_reservedBits_iff_usedBits (w : Word) : decode w = .error .reservedBits ↔
    cmdOpc w ∈ assignedOpcodes ∧ w.toNat / 2 ^ usedBits (cmdOpc w).toNat ≠ 0 := by
  rw [decode_eq_reservedBits_iff]
  by_cases hmem : cmdOpc w ∈ assignedOpcodes
  · obtain ⟨row, hrow, hmask⟩ := Option.map_eq_some_iff.mp (usedMask_of_assigned _ hmem)
    simp [hrow, hmask, hmem, unused_bits_zero]
  · simp [(opcodeRow_eq_none_iff _).mpr hmem, hmem]

theorem mem_map_assignedOpcodes (opc : Byte) :
    opc.toNat ∈ assignedOpcodes.map BitVec.toNat ↔ opc ∈ assignedOpcodes :=
  List.mem_map_of_injective fun _ _ => BitVec.eq_of_toNat_eq

/-- Settles O3: the causes by the opcode map, with the opcode's number and the unused bits read off the word. -/
theorem decodeRefusalCauses : Obligations.DecodeRefusalCauses := by
  intro w assigned opc unused
  have hopc : opc = (cmdOpc w).toNat := (cmdOpc_toNat w).symm
  have hassigned : opc ∈ assigned ↔ cmdOpc w ∈ assignedOpcodes := hopc ▸ mem_map_assignedOpcodes (cmdOpc w)
  have hunused : unused = w.toNat / 2 ^ usedBits opc := by
    simp only [unused, usedBits]
    split_ifs <;> rfl
  rw [hassigned, hunused, hopc]
  exact ⟨(decode_eq_reservedOpcode_iff w).trans (opcodeRow_eq_none_iff _), decode_eq_reservedBits_iff_usedBits w⟩

/-! ### Commands that are refused, and NOP (R105, R229) -/

theorem runCommand_of_decode_error {w : Word} {e : DecodeError} (h : decode w = .error e) (s : State) :
    runCommand w s = .next (cmdError (decodeCause e) s) := by
  simp only [runCommand, h]

/-- Settles O6: a refused word is its CmdError, whose whole effect is on STATUS. -/
theorem refusedWordsRaiseOnlyCmdError : Obligations.RefusedWordsRaiseOnlyCmdError := by
  intro s w e h
  rw [runCommand_of_decode_error h]
  cases e with
  | reservedOpcode => rfl
  | reservedBits => rfl

/-- Settles O7: NOP's own row of the opcode map. -/
theorem nopDoesNothing : Obligations.NopDoesNothing := ⟨fun _ => rfl, commandWords_of_row rfl⟩

end Sys2Proof.Machine

/-! ## The TMDS symbol encoder -/

namespace Sys2Proof.Machine

/-! ### The 1-count (R11) -/

theorem popcount_eq_length_filter {n : Nat} (v : BitVec n) :
    popcount v = ((List.range n).filter fun i => v.getLsbD i).length :=
  List.countP_eq_length_filter

theorem popcount_le {n : Nat} (v : BitVec n) : popcount v ≤ n :=
  List.countP_le_length.trans_eq List.length_range

theorem popcount_ofBool (b : Bool) : popcount (BitVec.ofBool b) = b.toNat := by
  cases b <;> rfl

theorem popcount_append {m n : Nat} (x : BitVec m) (y : BitVec n) :
    popcount (x ++ y) = popcount x + popcount y := by
  have hrange : List.range (m + n) = List.range n ++ (List.range m).map (n + ·) := by
    rw [Nat.add_comm, List.range_add]
  have hlow : (List.range n).countP (fun i => (x ++ y).getLsbD i) = popcount y :=
    List.countP_congr fun i hi => by rw [BitVec.getLsbD_append, if_pos (List.mem_range.mp hi)]
  have hhigh : (List.range m).countP ((fun i => (x ++ y).getLsbD i) ∘ (n + ·)) = popcount x :=
    List.countP_congr fun i _ => by simp [BitVec.getLsbD_append]
  rw [popcount, hrange, List.countP_append, List.countP_map, hlow, hhigh, Nat.add_comm]

theorem popcount_add_popcount_not {n : Nat} (v : BitVec n) : popcount v + popcount (~~~v) = n := by
  have hnot : popcount (~~~v) = (List.range n).countP fun i => decide ¬v.getLsbD i = true :=
    List.countP_congr fun i hi => by simp [List.mem_range.mp hi]
  rw [hnot, popcount, ← List.length_eq_countP_add_countP, List.length_range]

/-- The 1-count is that of the low bit and that of the bits above it. -/
theorem popcount_eq_lowBit_add {n : Nat} (v : BitVec (n + 1)) :
    popcount v = (v.getLsbD 0).toNat + (List.range n).countP fun i => v.getLsbD (i + 1) := by
  rw [popcount, List.range_succ_eq_map, List.countP_cons, List.countP_map, Nat.add_comm]
  cases v.getLsbD 0 <;> rfl

/-! ### Stage 1 (R133) -/

theorem chooseXnor_iff (D : Byte) :
    chooseXnor D = true ↔ 4 < popcount D ∨ (popcount D = 4 ∧ D.getLsbD 0 = false) := by
  simp [chooseXnor]

theorem qmByte_bit_zero (D : Byte) : (qmByte D).getLsbD 0 = D.getLsbD 0 :=
  qmByte_bit D (by decide)

theorem qmByte_bit_succ (D : Byte) {i : Nat} (h : i + 1 < 8) :
    (qmByte D).getLsbD (i + 1) = ((qmByte D).getLsbD i ^^ D.getLsbD (i + 1) ^^ chooseXnor D) := by
  rw [qmByte_bit D h, qmByte_bit D (Nat.lt_of_succ_lt h), qmBit]
  cases chooseXnor D <;> simp

/-- Settles O8: the symbol's data bits, the inversion undone, are q_m, and bit 8 is its flag. -/
theorem symbolCarriesStageOne : Obligations.SymbolCarriesStageOne := by
  intro d D q qm n1D xnor
  have hqm (i : Nat) (hi : i < 8) : qm i = (qmByte D).getLsbD i := tmdsSymbol_data d D hi
  have hxnor : xnor = chooseXnor D := by
    rw [Bool.eq_iff_iff, chooseXnor_iff, popcount_eq_length_filter]
    exact decide_eq_true_iff
  refine ⟨hxnor ▸ tmdsSymbol_bit8 d D, (hqm 0 (by decide)).trans (qmByte_bit_zero D), fun i hi1 hi7 => ?_⟩
  obtain ⟨j, rfl⟩ := Nat.exists_eq_add_of_le' hi1
  rw [hxnor, Nat.add_sub_cancel, hqm (j + 1) (by omega), hqm j (by omega), qmByte_bit_succ D (by omega)]
  cases chooseXnor D <;> simp

/-! ### Stage 2 (R134) -/

/-- Settles O9: the symbol shows q_m's 1-count, its flag and the inversion. -/
theorem symbolInversionRule : Obligations.SymbolInversionRule := by
  intro d D q n1
  have hn1 : n1 = popcount (qmByte D) := by
    rw [popcount_eq_length_filter]
    exact congrArg List.length
      (List.filter_congr fun i hi => tmdsSymbol_data d D (List.mem_range.mp hi))
  rw [tmdsSymbol_bit9, tmdsSymbol_bit8, hn1, chooseInvert]
  simp only [gt_iff_lt, Bool.if_false_right, Bool.and_true]

/-! ### A receiver: the byte of a symbol -/

/-- q_m[7:0] as a receiver reads it: the data bits, inverted back where bit 9 is 1. -/
def receivedQm (q : Symbol) : Byte := if q.getLsbD 9 then ~~~q.setWidth 8 else q.setWidth 8

/-- The byte as a receiver reads it: each bit of q_m against the one below, and XNOR undone where bit 8 is 0. -/
def receivedByte (q : Symbol) : Byte :=
  receivedQm q ^^^ (receivedQm q <<< 1) ^^^ (if q.getLsbD 8 then 0x00#8 else 0xFE#8)

theorem receivedQm_tmdsSymbol (d : Int) (D : Byte) : receivedQm (tmdsSymbol d D) = qmByte D := by
  refine BitVec.eq_of_getLsbD_eq fun i hi => ?_
  rw [← tmdsSymbol_data d D hi, receivedQm]
  cases (tmdsSymbol d D).getLsbD 9 <;> simp [hi]

/-- The bits of 0xFE: every bit of a byte but the low one. -/
theorem allButLow_bit : ∀ i < 8, (0xFE#8).getLsbD i = decide (i ≠ 0) := by decide

theorem receivedByte_tmdsSymbol (d : Int) (D : Byte) : receivedByte (tmdsSymbol d D) = D := by
  have hflag (i : Nat) (hi : i < 8) :
      (if qmXorFlag D then 0x00#8 else 0xFE#8).getLsbD i = (chooseXnor D && decide (i ≠ 0)) := by
    rw [qmXorFlag, ← allButLow_bit i hi]
    cases chooseXnor D <;> simp
  refine BitVec.eq_of_getLsbD_eq fun i hi => ?_
  rw [receivedByte, receivedQm_tmdsSymbol, tmdsSymbol_bit8, BitVec.getLsbD_xor, BitVec.getLsbD_xor,
    hflag i hi]
  cases i with
  | zero => rw [BitVec.getLsbD_shiftLeft, qmByte_bit_zero]; simp
  | succ i =>
    rw [BitVec.getLsbD_shiftLeft, qmByte_bit_succ D hi]
    have hsucc : (decide (i + 1 < 8) && !decide (i + 1 < 1)) = true := by simp [hi]
    rw [hsucc, Nat.add_sub_cancel, Bool.true_and]
    cases (qmByte D).getLsbD i <;> cases chooseXnor D <;> simp

/-- Settles O10: the receiver reads the byte from the symbol alone. -/
theorem symbolDeterminesByte : Obligations.SymbolDeterminesByte := fun d e D E h => by
  rw [← receivedByte_tmdsSymbol d D, h, receivedByte_tmdsSymbol e E]

/-- A control symbol carries the flag that stage 1 does not choose for the byte a receiver would read. -/
theorem ctrlSymbol_wrong_flag (c : BitVec 2) :
    (ctrlSymbol c).getLsbD 8 ≠ qmXorFlag (receivedByte (ctrlSymbol c)) := by
  revert c
  decide

/-- Settles O16: an encoded byte carries the flag of stage 1, and a control symbol the other one. -/
theorem dataSymbolsAreNotControlSymbols : Obligations.DataSymbolsAreNotControlSymbols := by
  intro d D c h
  refine ctrlSymbol_wrong_flag c ?_
  rw [← h, receivedByte_tmdsSymbol, tmdsSymbol_bit8]

/-! ### Stage 3: the discrepancy after a symbol (R135) -/

theorem popcount_tmdsSymbol (d : Int) (D : Byte) :
    popcount (tmdsSymbol d D) =
      if chooseInvert d D then 1 + (qmXorFlag D).toNat + (8 - popcount (qmByte D))
      else (qmXorFlag D).toNat + popcount (qmByte D) := by
  have hnot := popcount_add_popcount_not (qmByte D)
  simp only [tmdsSymbol, popcount_append, popcount_ofBool]
  cases chooseInvert d D
  · simp
  · simp only [if_true, Bool.toNat_true]
    omega

/-- R134's first case, where the inversion follows the flag: the flag and the inversion bit are one 1 together. -/
theorem tmdsDiscrepancy_of_balanced {d : Int} {D : Byte} (h : d = 0 ∨ popcount (qmByte D) = 4) :
    tmdsDiscrepancy d D =
      d + if qmXorFlag D then (popcount (qmByte D) : Int) - 4 else 4 - popcount (qmByte D) := by
  have hle := popcount_le (qmByte D)
  have hinv : chooseInvert d D = !qmXorFlag D := if_pos h
  rw [tmdsDiscrepancy, popcount_tmdsSymbol, hinv]
  cases qmXorFlag D <;> simp <;> omega

/-- R134's second case: more of the kind of bit already in excess, so the data bits are inverted. -/
theorem tmdsDiscrepancy_of_worse {d : Int} {D : Byte}
    (h : 0 < d ∧ 4 < popcount (qmByte D) ∨ d < 0 ∧ popcount (qmByte D) < 4) :
    tmdsDiscrepancy d D = d + 4 + (qmXorFlag D).toNat - popcount (qmByte D) := by
  have hle := popcount_le (qmByte D)
  have hinv : chooseInvert d D = true := by
    rw [chooseInvert, if_neg (by omega), if_pos h]
  rw [tmdsDiscrepancy, popcount_tmdsSymbol, hinv, if_pos rfl]
  omega

/-- R134's third case: more of the other kind of bit, so the data bits are sent as they are. -/
theorem tmdsDiscrepancy_of_better {d : Int} {D : Byte}
    (h : 0 < d ∧ popcount (qmByte D) < 4 ∨ d < 0 ∧ 4 < popcount (qmByte D)) :
    tmdsDiscrepancy d D = d + (qmXorFlag D).toNat + popcount (qmByte D) - 5 := by
  have hinv : chooseInvert d D = false := by
    rw [chooseInvert, if_neg (by omega), if_neg (by omega)]
  rw [tmdsDiscrepancy, popcount_tmdsSymbol, hinv, if_neg Bool.false_ne_true]
  omega

/-- The three cases of R134. -/
theorem inversion_cases (d : Int) (D : Byte) :
    (d = 0 ∨ popcount (qmByte D) = 4) ∨
      (0 < d ∧ 4 < popcount (qmByte D) ∨ d < 0 ∧ popcount (qmByte D) < 4) ∨
      (0 < d ∧ popcount (qmByte D) < 4 ∨ d < 0 ∧ 4 < popcount (qmByte D)) := by
  omega

/-! ### Bounds on the discrepancy (R140) -/

/-- R140 (c): how far one symbol moves the discrepancy. -/
theorem tmdsDiscrepancy_change (d : Int) (D : Byte) :
    (0 < d → -5 ≤ tmdsDiscrepancy d D - d ∧ tmdsDiscrepancy d D - d ≤ 0) ∧
      (d < 0 → 0 ≤ tmdsDiscrepancy d D - d ∧ tmdsDiscrepancy d D - d ≤ 5) ∧
      (d = 0 → -4 ≤ tmdsDiscrepancy d D - d ∧ tmdsDiscrepancy d D - d ≤ 4) := by
  have hle := popcount_le (qmByte D)
  have hflag := Bool.toNat_le (qmXorFlag D)
  rcases inversion_cases d D with h | h | h
  · rw [tmdsDiscrepancy_of_balanced h]
    split <;> omega
  · rw [tmdsDiscrepancy_of_worse h]
    omega
  · rw [tmdsDiscrepancy_of_better h]
    omega

/-- One symbol does not take the discrepancy past both its old value and -4..4. -/
theorem tmdsDiscrepancy_between (d : Int) (D : Byte) :
    min d (-4) ≤ tmdsDiscrepancy d D ∧ tmdsDiscrepancy d D ≤ max d 4 := by
  have hchange := tmdsDiscrepancy_change d D
  omega

theorem abs_tmdsDiscrepancy_le (d : Int) (D : Byte) : |tmdsDiscrepancy d D| ≤ max |d| 4 := by
  have hbetween := tmdsDiscrepancy_between d D
  have habs := abs_le.mp (le_refl |d|)
  exact abs_le.mpr (by omega)

/-- R140 (b): along any bytes from a discrepancy in -4..4. -/
theorem foldl_tmdsDiscrepancy_between (bytes : List Byte) {d : Int} (hlow : -4 ≤ d) (hhigh : d ≤ 4) :
    -4 ≤ bytes.foldl tmdsDiscrepancy d ∧ bytes.foldl tmdsDiscrepancy d ≤ 4 := by
  induction bytes generalizing d with
  | nil => exact ⟨hlow, hhigh⟩
  | cons D rest ih =>
    have hbetween := tmdsDiscrepancy_between d D
    exact ih (by omega) (by omega)

/-- R140 (b): one byte takes the discrepancy from 0 to any value in -4..4. -/
theorem exists_tmdsDiscrepancy_zero_eq {v : Int} (hlow : -4 ≤ v) (hhigh : v ≤ 4) :
    ∃ D, tmdsDiscrepancy 0 D = v := by
  have hreached : [0x00#8, 0x03#8, 0x05#8, 0x09#8, 0x10#8, 0x08#8, 0x04#8, 0x02#8, 0x01#8].map
      (tmdsDiscrepancy 0) = [-4, -3, -2, -1, 0, 1, 2, 3, 4] := by decide
  have hv : v ∈ ([-4, -3, -2, -1, 0, 1, 2, 3, 4] : List Int) := by
    simp only [List.mem_cons, List.not_mem_nil, or_false]
    omega
  rw [← hreached] at hv
  obtain ⟨D, -, hD⟩ := List.mem_map.mp hv
  exact ⟨D, hD⟩

/-- R140 (a): the 1-counts of the 256 symbols at discrepancy 0, a table with no rule behind it, by evaluation. -/
theorem popcount_tmdsSymbol_zero_table :
    ((List.range 9).map fun k =>
      ((List.range 256).filter fun b => popcount (tmdsSymbol 0 (BitVec.ofNat 8 b)) == k + 1).length)
        = [2, 16, 36, 48, 52, 48, 36, 16, 2] := by
  decide +kernel

/-- Settles O11: the bounds are those of one symbol, kept along any bytes, and each value is reached by one byte. -/
theorem discrepancyBounds : Obligations.DiscrepancyBounds := by
  refine ⟨fun D => ?_, popcount_tmdsSymbol_zero_table, fun bytes => ?_, fun v hlow hhigh => ?_, fun d D => ?_⟩
  · obtain ⟨hlow, hhigh⟩ := tmdsDiscrepancy_between 0 D
    have hcount : tmdsDiscrepancy 0 D = 0 + popcount (tmdsSymbol 0 D) - 5 := rfl
    omega
  · exact foldl_tmdsDiscrepancy_between bytes (by decide) (by decide)
  · obtain ⟨D, hD⟩ := exists_tmdsDiscrepancy_zero_eq hlow hhigh
    exact ⟨[D], hD⟩
  · obtain ⟨hpos, hneg, hzero⟩ := tmdsDiscrepancy_change d D
    exact ⟨hpos, hneg, hzero, abs_tmdsDiscrepancy_le d D⟩

/-! ### RES1: the signed reading of the new discrepancy (R11, R136) -/

theorem u32_toInt {i : Int} (hlow : -2 ^ 31 ≤ i) (hhigh : i < 2 ^ 31) : (u32 i).toInt = i :=
  BitVec.toInt_ofInt_eq_self (by decide) hlow hhigh

theorem u32_tmdsDiscrepancy_toInt (v : Word) (D : Byte) :
    (u32 (tmdsDiscrepancy v.toInt D)).toInt = tmdsDiscrepancy v.toInt D := by
  have hbetween := tmdsDiscrepancy_between v.toInt D
  have hlow := BitVec.le_toInt v
  have hhigh := BitVec.toInt_lt (x := v)
  exact u32_toInt (by omega) (by omega)

/-- Settles O12: the new discrepancy fits RES1, since it stays within that of ARG0 or within 4 of 0. -/
theorem encWritesSymbolAndDiscrepancy : Obligations.EncWritesSymbolAndDiscrepancy :=
  ⟨fun byte s => ⟨_, rfl, u32_tmdsDiscrepancy_toInt s.arg0 byte⟩, commandWords_of_row rfl⟩

/-! ### Pairs (R130, R137) -/

theorem pairWord_fields (s0 s1 : Symbol) :
    (pairWord s0 s1).extractLsb' 0 10 = s0 ∧ (pairWord s0 s1).extractLsb' 10 10 = s1 ∧
      (pairWord s0 s1).extractLsb' 20 12 = 0#12 := by
  have hlow : (pairWord s0 s1).extractLsb' 0 10 = s0 := BitVec.extractLsb'_append_eq_right
  have hmid : (pairWord s0 s1).extractLsb' 10 10 = s1 := calc
    _ = (0#12 ++ s1).extractLsb' 0 10 := BitVec.extractLsb'_append_eq_of_le (by decide)
    _ = s1 := BitVec.extractLsb'_append_eq_right
  have hhigh : (pairWord s0 s1).extractLsb' 20 12 = 0#12 := calc
    _ = (0#12 ++ s1).extractLsb' 10 12 := BitVec.extractLsb'_append_eq_of_le (by decide)
    _ = 0#12 := BitVec.extractLsb'_append_eq_left
  exact ⟨hlow, hmid, hhigh⟩

theorem encodePairResidual_between (b0 b1 : Byte) :
    -4 ≤ encodePairResidual b0 b1 ∧ encodePairResidual b0 b1 ≤ 4 :=
  foldl_tmdsDiscrepancy_between [b0, b1] (by decide) (by decide)

theorem u32_encodePairResidual_toInt (b0 b1 : Byte) :
    (u32 (encodePairResidual b0 b1)).toInt = encodePairResidual b0 b1 := by
  have hbetween := encodePairResidual_between b0 b1
  exact u32_toInt (by omega) (by omega)

theorem u32_encodePairResidual_eq_zero_iff (b0 b1 : Byte) :
    u32 (encodePairResidual b0 b1) = 0#32 ↔ encodePairResidual b0 b1 = 0 := by
  rw [← BitVec.toInt_inj, u32_encodePairResidual_toInt, BitVec.toInt_zero]

/-- ENC_PAIR's whole effect, UNBAL by the residual as RES1 holds it (R138, R141). -/
theorem exec_encPair (b0 b1 : Byte) (s : State) :
    exec (.encPair b0 b1) s =
      .next { s with
        res0 := encodePairWord b0 b1
        res1 := u32 (encodePairResidual b0 b1)
        status := { s.status with
          unbal := s.status.unbal || decide (u32 (encodePairResidual b0 b1) ≠ 0#32) } } := by
  rw [decide_eq_decide.mpr (u32_encodePairResidual_eq_zero_iff b0 b1).not]
  rfl

/-- Settles O13: the pair word's fields, and the residual, which fits RES1. -/
theorem encPairWritesPairAndResidual : Obligations.EncPairWritesPairAndResidual := by
  refine ⟨fun b0 b1 s => ⟨_, _, exec_encPair b0 b1 s, ?_⟩, commandWords_of_row rfl⟩
  obtain ⟨hlow, hmid, hhigh⟩ :=
    pairWord_fields (tmdsSymbol 0 b0) (tmdsSymbol (tmdsDiscrepancy 0 b0) b1)
  exact ⟨hlow, hmid, hhigh, u32_encodePairResidual_toInt b0 b1⟩

/-! ### The byte and the byte xor 1 (R139) -/

theorem xorOne_bit_zero (b : Byte) : (b ^^^ 0x01#8).getLsbD 0 = !b.getLsbD 0 := by
  simp

theorem xorOne_bit_succ (b : Byte) (i : Nat) : (b ^^^ 0x01#8).getLsbD (i + 1) = b.getLsbD (i + 1) := by
  simp

/-- The tie-break makes the two bytes take the same of XOR and XNOR. -/
theorem chooseXnor_xorOne (b : Byte) : chooseXnor (b ^^^ 0x01#8) = chooseXnor b := by
  rw [Bool.eq_iff_iff, chooseXnor_iff, chooseXnor_iff, popcount_eq_lowBit_add, popcount_eq_lowBit_add b,
    xorOne_bit_zero]
  simp only [xorOne_bit_succ]
  cases b.getLsbD 0 <;> simp <;> omega

/-- So each bit of stage 1 comes out the other way round. -/
theorem qmByte_xorOne (b : Byte) : qmByte (b ^^^ 0x01#8) = ~~~qmByte b := by
  refine BitVec.eq_of_getLsbD_eq fun i hi => ?_
  rw [BitVec.getLsbD_not, decide_eq_true hi, Bool.true_and]
  induction i with
  | zero => rw [qmByte_bit_zero, qmByte_bit_zero, xorOne_bit_zero]
  | succ i ih =>
    rw [qmByte_bit_succ _ hi, qmByte_bit_succ _ hi, ih (by omega), xorOne_bit_succ, chooseXnor_xorOne]
    simp

theorem qmXorFlag_xorOne (b : Byte) : qmXorFlag (b ^^^ 0x01#8) = qmXorFlag b := by
  rw [qmXorFlag, chooseXnor_xorOne, qmXorFlag]

/-- The second symbol gives back what the first one took. -/
theorem encodePairResidual_xorOne (b : Byte) : encodePairResidual b (b ^^^ 0x01#8) = 0 := by
  have hfirst := tmdsDiscrepancy_of_balanced (d := 0) (D := b) (.inl rfl)
  have hcount := popcount_add_popcount_not (qmByte b)
  rw [← qmByte_xorOne] at hcount
  rw [encodePairResidual]
  rcases inversion_cases (tmdsDiscrepancy 0 b) (b ^^^ 0x01#8) with h | h | h
  · rw [tmdsDiscrepancy_of_balanced h, qmXorFlag_xorOne]
    split at hfirst <;> split <;> omega
  · rw [tmdsDiscrepancy_of_worse h, qmXorFlag_xorOne]
    split at hfirst <;> simp only [*, Bool.toNat_true, Bool.toNat_false] <;> omega
  · rw [tmdsDiscrepancy_of_better h, qmXorFlag_xorOne]
    split at hfirst <;> simp only [*, Bool.toNat_true, Bool.toNat_false] <;> omega

theorem exec_encApprox (b : Byte) (s : State) :
    exec (.encApprox b) s =
      .next { s with res0 := encodePairWord b (b ^^^ 0x01#8), res1 := 0#32 } := by
  have heffect : exec (.encApprox b) s = .next (setResults (encodePairWord b (b ^^^ 0x01#8))
      (u32 (encodePairResidual b (b ^^^ 0x01#8))) s) := rfl
  rw [heffect, encodePairResidual_xorOne]
  rfl

theorem exec_encPair_xorOne (b : Byte) (s : State) :
    exec (.encPair b (b ^^^ 0x01#8)) s =
      .next { s with res0 := encodePairWord b (b ^^^ 0x01#8), res1 := 0#32 } := by
  have hzero : u32 0 = 0#32 := rfl
  rw [exec_encPair, encodePairResidual_xorOne, hzero]
  simp

/-- Settles O14: ENC_APPROX is the pair of the byte and the byte xor 1, whose residual is 0. -/
theorem encApproxIsBalancedPair : Obligations.EncApproxIsBalancedPair :=
  ⟨fun b s => ⟨_, exec_encApprox b s, exec_encPair_xorOne b s⟩, commandWords_of_row rfl⟩

/-! ### Control symbols (R142, R143) -/

theorem exec_ctrlSym (c : BitVec 2) (s : State) :
    exec (.ctrlSym c) s = .next { s with res0 := (ctrlSymbol c).setWidth 32, res1 := symw c } := rfl

/-- Settles O15: the table of R142, each symbol alone and as a pair. -/
theorem ctrlSymWritesTable : Obligations.CtrlSymWritesTable := by
  refine ⟨fun s => ⟨?_, ?_, ?_, ?_⟩, commandWords_of_row rfl⟩ <;> rw [exec_ctrlSym] <;> rfl

end Sys2Proof.Machine

/-! ## The display-timing state machine -/

namespace Sys2Proof.Machine

/-! ### The lines of a frame (R160) -/

theorem lineCount_pos {t : Timing} (hv : vValid t = true) (list : LineState) : 0 < lineCount t list := by
  obtain ⟨hfp, hsync, hbp, hact⟩ := (vValid_iff t).mp hv
  cases list <;> assumption

theorem lineCount_lt (t : Timing) (list : LineState) : lineCount t list < 2 ^ 16 := by
  cases list <;> exact BitVec.isLt _

theorem linesBefore_add_lineCount_le (t : Timing) (list : LineState) :
    linesBefore t list + lineCount t list ≤ totalLines t := by
  cases list <;> simp only [linesBefore, lineCount, totalLines, blankLines] <;> omega

/-- Each line-state begins where the one before it ends; FrontPorch begins again at the end of the frame. -/
theorem linesBefore_nextLineState {t : Timing} (hv : vValid t = true) (list : LineState) :
    linesBefore t (nextLineState list) = (linesBefore t list + lineCount t list) % totalLines t := by
  have hact : 0 < t.vActive.toNat := lineCount_pos hv .active
  cases list with
  | active => exact (Nat.mod_self _).symm
  | frontPorch | sync | backPorch =>
    rw [Nat.mod_eq_of_lt] <;> simp only [nextLineState, linesBefore, lineCount, totalLines, blankLines] <;> omega

/-- The line-state a frame position lies in. -/
def lineStateAt (t : Timing) (p : Nat) : LineState :=
  if p < linesBefore t .sync then .frontPorch
  else if p < linesBefore t .backPorch then .sync
  else if p < linesBefore t .active then .backPorch
  else .active

theorem lineStateAt_linesBefore_add {t : Timing} {list : LineState} {c : Nat} (hc : c < lineCount t list) :
    lineStateAt t (linesBefore t list + c) = list := by
  cases list <;> grind [lineStateAt, linesBefore, lineCount]

/-! ### TIM_RESET (R163) -/

/-- Settles O17, by TIM_RESET's equation and its row of the opcode map. -/
theorem timResetGoesToStart : Obligations.TimResetGoesToStart := ⟨fun _ => rfl, commandWords_of_row rfl⟩

/-! ### One TIM_ADVANCE (R162) -/

theorem exec_timAdvance_roll {s : State} (hv : vValid s.timing = true)
    (hlast : lineCount s.timing s.vstate ≤ s.vctr.toNat + 1) :
    exec .timAdvance s = .next { s with vstate := nextLineState s.vstate, vctr := 0#32 } := by
  simp [exec, execTimAdvance, hv, hlast]

theorem exec_timAdvance_count {s : State} (hv : vValid s.timing = true)
    (hmore : s.vctr.toNat + 1 < lineCount s.timing s.vstate) :
    exec .timAdvance s = .next { s with vctr := s.vctr + 1#32 } := by
  simp [exec, execTimAdvance, hv, hmore]

theorem exec_timAdvance_badConfig {s : State} (hv : vValid s.timing ≠ true) :
    exec .timAdvance s = .next (cmdError .badConfig s) := by
  simp [exec, execTimAdvance, hv]

/-- Counting does not wrap: a line-state has fewer than 2^16 lines (R162 corner case (c)). -/
theorem vctr_succ_toNat {s : State} (hmore : s.vctr.toNat + 1 < lineCount s.timing s.vstate) :
    (s.vctr + 1#32).toNat = s.vctr.toNat + 1 := by
  have hlt := lineCount_lt s.timing s.vstate
  have hroom : s.vctr.toNat + (1#32).toNat < 2 ^ 32 := by
    rw [BitVec.toNat_one (by decide)]
    omega
  exact BitVec.toNat_add_of_lt hroom

/-- Settles O18, a line-state's count and successor being `lineCount` and `nextLineState`. -/
theorem timAdvanceRule : Obligations.TimAdvanceRule := by
  refine ⟨fun s => ?_, commandWords_of_row rfl⟩
  dsimp only
  rw [← vValid_iff]
  refine ⟨fun hv hlast => ?_, fun hv hmore => ?_, exec_timAdvance_badConfig⟩
  · exact exec_timAdvance_roll hv hlast
  · exact ⟨_, vctr_succ_toNat hmore, exec_timAdvance_count hv hmore⟩

/-! ### Runs of TIM_ADVANCE (R166) -/

/-- From `s` to `t` the frame position moves on by `k` modulo TOTAL and the counter ends inside its line-state,
where nothing but VSTATE and VCTR differs. -/
structure MovedOn (k : Nat) (s t : State) : Prop where
  frame : t = { s with vstate := t.vstate, vctr := t.vctr }
  inside : t.vctr.toNat < lineCount t.timing t.vstate
  pos : framePos t = (framePos s + k) % totalLines s.timing

theorem framePos_lt {s : State} (hin : s.vctr.toNat < lineCount s.timing s.vstate) :
    framePos s < totalLines s.timing :=
  calc framePos s
    _ < linesBefore s.timing s.vstate + lineCount s.timing s.vstate := Nat.add_lt_add_left hin _
    _ ≤ totalLines s.timing := linesBefore_add_lineCount_le _ _

theorem MovedOn.timing_eq {k : Nat} {s t : State} (h : MovedOn k s t) : t.timing = s.timing := by
  rw [h.frame]

theorem MovedOn.refl {s : State} (hin : s.vctr.toNat < lineCount s.timing s.vstate) : MovedOn 0 s s :=
  ⟨rfl, hin, (Nat.mod_eq_of_lt (framePos_lt hin)).symm⟩

theorem MovedOn.trans {j k : Nat} {s t u : State} (hst : MovedOn j s t) (htu : MovedOn k t u) :
    MovedOn (j + k) s u where
  frame := by rw [htu.frame, hst.frame]
  inside := htu.inside
  pos := by rw [htu.pos, hst.timing_eq, hst.pos, Nat.mod_add_mod, Nat.add_assoc]

/-- The frame position determines VSTATE and VCTR. -/
theorem MovedOn.eq_of_framePos_eq {k : Nat} {s t : State} (h : MovedOn k s t)
    (hin : s.vctr.toNat < lineCount s.timing s.vstate) (hpos : framePos t = framePos s) : t = s := by
  have hvstate : t.vstate = s.vstate := calc
    t.vstate = lineStateAt t.timing (framePos t) := (lineStateAt_linesBefore_add h.inside).symm
    _ = lineStateAt s.timing (framePos s) := by rw [hpos, h.timing_eq]
    _ = s.vstate := lineStateAt_linesBefore_add hin
  have hvctr : t.vctr = s.vctr := by
    rw [framePos, framePos, hvstate, h.timing_eq, Nat.add_left_cancel_iff] at hpos
    exact BitVec.eq_of_toNat_eq hpos
  rw [h.frame, hvstate, hvctr]

/-- One line on: at the end of a line-state to the beginning of the next, elsewhere within it. -/
theorem exec_timAdvance_movedOn {s : State} (hv : vValid s.timing = true)
    (hin : s.vctr.toNat < lineCount s.timing s.vstate) :
    ∃ t, exec .timAdvance s = .next t ∧ MovedOn 1 s t := by
  rcases Nat.lt_or_ge (s.vctr.toNat + 1) (lineCount s.timing s.vstate) with hmore | hlast
  · have hvctr := vctr_succ_toNat hmore
    have hlt : framePos s + 1 < totalLines s.timing := by
      have hend := linesBefore_add_lineCount_le s.timing s.vstate
      rw [framePos]
      omega
    refine ⟨_, exec_timAdvance_count hv hmore, rfl, hvctr ▸ hmore, ?_⟩
    rw [Nat.mod_eq_of_lt hlt, framePos, hvctr, ← Nat.add_assoc, framePos]
  · have hend : framePos s + 1 = linesBefore s.timing s.vstate + lineCount s.timing s.vstate := by
      rw [framePos]
      omega
    refine ⟨_, exec_timAdvance_roll hv hlast, rfl, lineCount_pos hv _, ?_⟩
    rw [hend, ← linesBefore_nextLineState hv]
    rfl

theorem execTimes_succ_of_next {i : Instr} {s t : State} (n : Nat) (h : exec i s = .next t) :
    execTimes i (n + 1) s = execTimes i n t := by
  rw [execTimes, h]

theorem execTimes_timAdvance_movedOn (k : Nat) {s : State} (hv : vValid s.timing = true)
    (hin : s.vctr.toNat < lineCount s.timing s.vstate) :
    ∃ t, execTimes .timAdvance k s = .next t ∧ MovedOn k s t := by
  induction k generalizing s with
  | zero => exact ⟨s, rfl, .refl hin⟩
  | succ k ih =>
    obtain ⟨t, ht, hst⟩ := exec_timAdvance_movedOn hv hin
    obtain ⟨u, hu, htu⟩ := ih (hst.timing_eq ▸ hv) hst.inside
    exact ⟨u, (execTimes_succ_of_next k ht).trans hu, k.add_comm 1 ▸ hst.trans htu⟩

/-- Settles O20: every run moves on by its length; TOTAL gives the position back, so the state, and a shorter run
another position. -/
theorem framePeriodicity : Obligations.FramePeriodicity := by
  intro s hv hin
  have hpos := framePos_lt hin
  refine ⟨fun k => ?_, ?_, fun k hk0 hk hback => ?_⟩
  · obtain ⟨t, ht, hmoved⟩ := execTimes_timAdvance_movedOn k hv hin
    exact ⟨t, ht, hmoved.frame, hmoved.inside, hmoved.pos⟩
  · obtain ⟨t, ht, hmoved⟩ := execTimes_timAdvance_movedOn (totalLines s.timing) hv hin
    have hsame : framePos t = framePos s := by
      rw [hmoved.pos, Nat.add_mod_right, Nat.mod_eq_of_lt hpos]
    rw [ht, hmoved.eq_of_framePos_eq hin hsame]
  · obtain ⟨t, ht, hmoved⟩ := execTimes_timAdvance_movedOn k hv hin
    obtain rfl : t = s := Host.Outcome.next.inj (ht.symm.trans hback)
    have hmod := hmoved.pos
    rcases Nat.lt_or_ge (framePos t + k) (totalLines t.timing) with hlt | hge
    · rw [Nat.mod_eq_of_lt hlt] at hmod
      omega
    · rw [Nat.mod_eq_sub_mod hge, Nat.mod_eq_of_lt (by omega)] at hmod
      omega

/-! ### TIM_INDEX (R165, R167) -/

/-- Some(y) or None, by where the position `offset` lines ahead lies. -/
theorem exec_timIndex_cases {s : State} (hv : vValid s.timing = true) :
    (∃ y : Nat, y < s.timing.vActive.toNat ∧ framePos s + s.arg0.toNat = blankLines s.timing + y ∧
        exec .timIndex s = .next { s with res0 := BitVec.ofNat 32 y, res1 := 1#32 }) ∨
      ((framePos s + s.arg0.toNat < blankLines s.timing ∨
          blankLines s.timing + s.timing.vActive.toNat ≤ framePos s + s.arg0.toNat) ∧
        exec .timIndex s = .next { s with res0 := 0#32, res1 := 0#32 }) := by
  have hrow : activeRow s = (framePos s : Int) + s.arg0.toNat - blankLines s.timing := rfl
  obtain ⟨t, ht⟩ := exec_completes .timIndex s
  rw [ht]
  rcases execTimIndex_cases ht with ⟨hbad, -⟩ | ⟨-, ⟨hlow, hhigh, rfl⟩ | ⟨hout, rfl⟩⟩
  · rw [hv] at hbad
    contradiction
  · obtain ⟨y, hy⟩ := Int.eq_ofNat_of_zero_le hlow
    rw [hy]
    exact .inl ⟨y, by omega, by omega, rfl⟩
  · exact .inr ⟨by omega, rfl⟩

theorem exec_timIndex_badConfig {s : State} (hv : vValid s.timing = false) :
    exec .timIndex s = .next (cmdError .badConfig s) := if_pos hv

/-- Settles O19, by the two outcomes of a valid configuration. -/
theorem timIndexRule : Obligations.TimIndexRule :=
  ⟨fun _ => ⟨exec_timIndex_cases, exec_timIndex_badConfig⟩, commandWords_of_row rfl⟩

/-- Some(y) is given at one frame position and no other. -/
theorem exec_timIndex_gives_iff {s : State} (hv : vValid s.timing = true) :
    ∃ u, exec .timIndex s = .next u ∧ ∀ y : Nat, y < s.timing.vActive.toNat →
      (u.res1 = 1#32 ∧ u.res0.toNat = y ↔ framePos s + s.arg0.toNat = blankLines s.timing + y) := by
  rcases exec_timIndex_cases hv with ⟨r, hr, hpos, hu⟩ | ⟨hout, hu⟩
  · have hres : (BitVec.ofNat 32 r).toNat = r := by
      have hact := s.timing.vActive.isLt
      exact Nat.mod_eq_of_lt (by omega)
    refine ⟨_, hu, fun y _ => ?_⟩
    rw [hpos, hres]
    simp
  · refine ⟨_, hu, fun y hy => ?_⟩
    have hne : framePos s + s.arg0.toNat ≠ blankLines s.timing + y := by omega
    simp [hne]

/-- Settles O21: after `n` advances of the first frame the position is `n`, and TIM_INDEX goes by the position. The
bound on the offset is not needed: above BLANK the first rows' positions would be negative (R167). -/
theorem indexCoversEachRowOnce : Obligations.IndexCoversEachRowOnce := by
  intro s hv hstate hctr _ n hn
  have hin : s.vctr.toNat < lineCount s.timing s.vstate := by
    rw [hctr]
    exact lineCount_pos hv _
  have hstart : framePos s = 0 := by
    rw [framePos, hstate, hctr]
    rfl
  obtain ⟨t, ht, hmoved⟩ := execTimes_timAdvance_movedOn n hv hin
  have htime : t.timing = s.timing := hmoved.timing_eq
  have harg : t.arg0 = s.arg0 := by rw [hmoved.frame]
  have hpos : framePos t = n := by rw [hmoved.pos, hstart, Nat.zero_add, Nat.mod_eq_of_lt hn]
  obtain ⟨u, hu, hrows⟩ := exec_timIndex_gives_iff (htime ▸ hv : vValid t.timing = true)
  rw [htime, harg, hpos] at hrows
  exact ⟨t, u, ht, hu, hrows⟩

end Sys2Proof.Machine

/-! ## The chain DMA_SETUP builds and DMA_UPDATE patches, and the words read from it -/

namespace Sys2Proof.Machine

/-! ### The lane-0 control indices (R192) -/

theorem vPulse_of_ne_sync {list : LineState} (h : list ≠ .sync) : vPulse list = false := beq_false_of_ne h

/-- Settles O26: an index depends on the list only through the vertical pulse, so one list other than Sync stands for
all three. -/
theorem syncPolarityTable : Obligations.SyncPolarityTable := by
  intro list hlist
  simp only [idleIndex, pulseIndex, vPulse_of_ne_sync hlist]
  decide

/-! ### The built slots (R195 to R197) -/

theorem descAt_buildDesc_lane0 (p : Params) (t : Timing) (dst : Lanes Word) (list : LineState) (b : Slot) :
    descAt (buildDesc p t dst) list .lane0 b = (buildLane0 p t dst.l0 list).get b := by
  cases list <;> rfl

theorem descAt_buildDesc_lane12 (p : Params) (t : Timing) (dst : Lanes Word) (list : LineState) {l : Lane}
    (hl : l ≠ .lane0) (b : Slot) :
    descAt (buildDesc p t dst) list l b = (buildLane12 p t (dst.get l) list).get b := by
  cases l with
  | lane0 => exact absurd rfl hl
  | lane1 => cases list <;> rfl
  | lane2 => cases list <;> rfl

/-- The active-region slot of a list other than Active repeats its symbol word (R195). -/
theorem activeRegion_of_ne_active {list : LineState} (h : list ≠ .active) (src dst count : Word) :
    (⟨if list = .active then 0#32 else src, dst, count, activeDctrl list⟩ : Descriptor) =
      ⟨src, dst, count, 0xC#32⟩ := by
  rw [activeDctrl, if_neg h, if_neg h]
  rfl

/-- The Active list's active-region slot steps through a buffer that is not chosen yet (R195). -/
theorem activeRegion_of_active {list : LineState} (h : list = .active) (src dst count : Word) :
    (⟨if list = .active then 0#32 else src, dst, count, activeDctrl list⟩ : Descriptor) =
      ⟨0#32, dst, count, 0xD#32⟩ := by
  rw [activeDctrl, if_pos h, if_pos h]
  rfl

/-- Settles O24: the slots are those of `buildLane0`. -/
theorem builtLaneZeroTable : Obligations.BuiltLaneZeroTable := by
  intro s t h hr hv hh list idle dst
  simp only [desc_of_dmaSetup h hr hv hh, descAt_buildDesc_lane0]
  exact ⟨rfl, rfl, rfl, fun hlist => activeRegion_of_ne_active hlist .., fun hlist => activeRegion_of_active hlist ..⟩

/-- Settles O25: the slots are those of `buildLane12`. -/
theorem builtLanesOneTwoTable : Obligations.BuiltLanesOneTwoTable := by
  intro s t h hr hv hh list l hl dst
  simp only [desc_of_dmaSetup h hr hv hh, descAt_buildDesc_lane12 _ _ _ _ hl]
  exact ⟨rfl, fun hlist => activeRegion_of_ne_active hlist .., fun hlist => activeRegion_of_active hlist .., rfl, rfl⟩

/-- Settles O29: the VALID slots are the used ones, and of these lane 0 slot 2 alone has IRQ. -/
theorem oneInterruptSlotPerList : Obligations.OneInterruptSlotPerList := by
  intro s t h hr hv hh list l b
  have hbuilt := buildDesc_built s.params s.timing s.txDst hh
  rw [desc_of_dmaSetup h hr hv hh, dctrlValid_buildDesc]
  constructor
  · rintro ⟨hused, hirq⟩
    rwa [hbuilt.irq list l b hused, decide_eq_true_iff] at hirq
  · intro hslot
    have hused : slotUsed l b = true := by
      obtain ⟨rfl, rfl⟩ := hslot
      rfl
    exact ⟨hused, (hbuilt.irq list l b hused).trans (decide_eq_true hslot)⟩

/-! ### DMA_UPDATE (R200) -/

theorem exec_dmaUpdate_notBuilt {s : State} (hb : s.status.built = false) :
    exec .dmaUpdate s = .next (cmdError .notBuilt s) := if_pos hb

theorem exec_dmaUpdate_misaligned {s : State} (hb : s.status.built = true) (ha : s.arg0.toNat % 4 ≠ 0) :
    exec .dmaUpdate s = .next (cmdError .misaligned s) := by
  have halign : wordAligned (opBufferPtr s) = false := Bool.eq_false_iff.mpr ((wordAligned_iff s.arg0).not.mpr ha)
  exact (if_neg (ne_false_of_eq_true hb)).trans (if_pos halign)

theorem exec_dmaUpdate_patch {s : State} (hb : s.status.built = true) (ha : s.arg0.toNat % 4 = 0) :
    exec .dmaUpdate s = .next (patchActive s.arg0 s.arg1 s) := by
  have halign : wordAligned (opBufferPtr s) = true := (wordAligned_iff s.arg0).mpr ha
  exact (if_neg (ne_false_of_eq_true hb)).trans (if_neg (ne_false_of_eq_true halign))

/-- A lane's distance from the buffer pointer is taken modulo 2^32 (R200). -/
theorem add_mul_toNat (ptr k stride : Word) :
    (ptr + k * stride).toNat = (ptr.toNat + k.toNat * stride.toNat) % 2 ^ 32 := by
  rw [BitVec.toNat_add, BitVec.toNat_mul, Nat.add_mod_mod]

/-- Settles O30: past its two checks DMA_UPDATE is the patch. -/
theorem dmaUpdateRule : Obligations.DmaUpdateRule := by
  refine ⟨fun s => ⟨fun hb ha => ?_, exec_dmaUpdate_notBuilt, exec_dmaUpdate_misaligned⟩, commandWords_of_row rfl⟩
  exact ⟨_, exec_dmaUpdate_patch hb ha, rfl, add_mul_toNat s.arg0 4#32 s.arg1, add_mul_toNat s.arg0 8#32 s.arg1,
    fun _ _ _ => descAt_patchDesc_frame ..⟩

/-! ### The words read outside the active region (R192, R196, R197) -/

/-- The control index of the symbol word a slot repeats, but for the Active list's active-region slots (R196, R197). -/
def blankIndex (pol : BitVec 2) (list : LineState) : Lane → Slot → BitVec 2
  | .lane0, .slot1 => pulseIndex pol list
  | .lane0, _ => idleIndex pol list
  | _, _ => 0#2

theorem blankIndex_lane0 (pol : BitVec 2) (list : LineState) (b : Slot) :
    blankIndex pol list .lane0 b = if b = .slot1 then pulseIndex pol list else idleIndex pol list := by
  cases b <;> rfl

theorem src_buildDesc (p : Params) (t : Timing) (dst : Lanes Word) {list : LineState} {l : Lane} {b : Slot}
    (hused : slotUsed l b = true) (hblank : ¬ (list = .active ∧ b = activeSlot l)) :
    (descAt (buildDesc p t dst) list l b).src = symAddr p (blankIndex t.pol list l b) := by
  have hregion : b = activeSlot l → ∀ x : Word, (if list = .active then 0#32 else x) = x :=
    fun hb _ => if_neg fun hlist => hblank ⟨hlist, hb⟩
  cases l with
  | lane0 =>
    rw [descAt_buildDesc_lane0]
    cases b with
    | slot3 => exact hregion rfl _
    | _ => rfl
  | lane1 | lane2 =>
    rw [descAt_buildDesc_lane12 _ _ _ _ (by decide)]
    cases b with
    | slot0 => rfl
    | slot1 => exact hregion rfl _
    | _ => cases hused

/-- The patch leaves the blanking slots of a built chain as DMA_SETUP built them (R200). -/
theorem Inv.src_eq_symAddr {s : State} (h : Inv s) (hb : s.status.built = true) {list : LineState} {l : Lane}
    {b : Slot} (hused : slotUsed l b = true) (hblank : ¬ (list = .active ∧ b = activeSlot l)) :
    (descAt s.desc list l b).src = symAddr s.params (blankIndex s.timing.pol list l b) := by
  rw [h.chain.built hb, descAt_patchDesc, if_neg hblank]
  exact src_buildDesc _ _ _ hused hblank

/-- A lane whose block is its active-region slot has no more than the active region left (R194). -/
theorem BlockInv.laneLeft_le_active {s : State} {l : Lane} {t : Timing} (h : BlockInv s l) (hd : BuiltDesc s.desc t)
    (hslot : (s.fetcher.lanes.get l).slot = activeSlot l) : laneLeft s l ≤ t.hActive.toNat / 2 := by
  have hlast : slotsAfter l (activeSlot l) = [] := by cases l <;> rfl
  have hcount := h.count
  rw [hslot, hd.active_words] at hcount
  rw [laneLeft, hslot, hlast]
  exact hcount

/-- A lane outside the Active list's active region reads the symbol word of its slot (R193, R195). -/
theorem Inv.memRead_blank {s : State} (h : Inv s) (hr : s.ctrl.run = true) (l : Lane)
    (hblank : ¬ (s.curList = .active ∧ (s.fetcher.lanes.get l).slot = activeSlot l)) :
    memRead s (s.fetcher.lanes.get l).addr =
      .word (symw (blankIndex s.timing.pol s.curList l (s.fetcher.lanes.get l).slot)) := by
  have hb := h.flags.run_built hr
  have hblock := h.engine.block hr l
  have hincr : dctrlIncr (s.fetcher.lanes.get l).dc = false := by
    rw [hblock.dctrl, (h.loadable hb).incr _ _ _ hblock.used]
    exact decide_eq_false hblank
  rw [hblock.repeats hincr, h.src_eq_symAddr hb hblock.used hblank]
  exact (symbolAddressesReadSymbolWords s _).2

/-! ### Lane 0's slot, by the position in the line (R194, R196) -/

/-- The width in pixels that a slot of lane 0 covers (R196). -/
def lane0Width (t : Timing) : Slot → Half
  | .slot0 => t.hFp
  | .slot1 => t.hSync
  | .slot2 => t.hBp
  | .slot3 => t.hActive

theorem Inv.lane0_count {s : State} (h : Inv s) (hb : s.status.built = true) (list : LineState) (b : Slot) :
    (descAt s.desc list .lane0 b).count.toNat = (lane0Width s.timing b).toNat / 2 := by
  rw [h.chain.built hb, descAt_patchDesc_count, descAt_buildDesc_lane0, ← widthWords_toNat]
  cases b <;> rfl

theorem Inv.slotWords_lane0 {s : State} (h : Inv s) (hb : s.status.built = true) (list : LineState) (bs : List Slot) :
    slotWords s.desc list .lane0 bs = (bs.map fun b => (lane0Width s.timing b).toNat / 2).sum := by
  simp only [slotWords, h.lane0_count hb]

/-- A lane that is read next has more words left than the slots after its own hold, and no more than with its own
slot (R223). -/
theorem EngineInv.laneLeft_bounds {s : State} (h : EngineInv s) (hr : s.ctrl.run = true) {l : Lane}
    (hahead : laneAhead s.fetcher.fk l = 0) {b : Slot} (hslot : (s.fetcher.lanes.get l).slot = b) :
    slotWords s.desc s.curList l (slotsAfter l b) < laneLeft s l ∧
      laneLeft s l ≤ slotWords s.desc s.curList l (b :: slotsAfter l b) := by
  subst hslot
  have hwords := h.unread hr l hahead
  have hcount := (h.block hr l).count
  exact ⟨Nat.lt_add_of_pos_left hwords, Nat.add_le_add_right hcount _⟩

/-- Lane 0 is in its horizontal pulse exactly for the H_SYNC/2 words before the back porch (R196). -/
theorem Inv.lane0_slot1_iff {s : State} (h : Inv s) (hr : s.ctrl.run = true)
    (hahead : laneAhead s.fetcher.fk .lane0 = 0) :
    (s.fetcher.lanes.get .lane0).slot = .slot1 ↔
      s.timing.hBp.toNat / 2 + s.timing.hActive.toNat / 2 < laneLeft s .lane0 ∧
        laneLeft s .lane0 ≤ s.timing.hSync.toNat / 2 + s.timing.hBp.toNat / 2 + s.timing.hActive.toNat / 2 := by
  generalize hslot : (s.fetcher.lanes.get .lane0).slot = b
  obtain ⟨hlow, hhigh⟩ := h.engine.laneLeft_bounds hr hahead hslot
  rw [h.slotWords_lane0 (h.flags.run_built hr)] at hlow hhigh
  cases b <;> simp only [slotsAfter, lane0Width, List.map_cons, List.map_nil, List.sum_cons, List.sum_nil] at hlow hhigh
  case slot1 => exact iff_of_true rfl (by omega)
  all_goals exact iff_of_false (by decide) (by omega)

/-- Settles O58: more words left than the active region holds, or another list than Active, put the lane on a blanking
slot; on lane 0 the number of words left says which. -/
theorem blankingWordsByPosition : Obligations.BlankingWordsByPosition := by
  intro s l h hr hahead n act bp sync hout
  have hblock := h.engine.block hr l
  have hbuilt := (h.loadable (h.flags.run_built hr)).toBuiltDesc
  have hblank : ¬ (s.curList = .active ∧ (s.fetcher.lanes.get l).slot = activeSlot l) := fun ⟨hlist, hslot⟩ =>
    hout.elim (absurd hlist) (hblock.laneLeft_le_active hbuilt hslot).not_gt
  rw [h.memRead_blank hr l hblank]
  congr 2
  cases l with
  | lane0 =>
    rw [if_neg (not_not_intro rfl), blankIndex_lane0]
    exact if_congr (h.lane0_slot1_iff hr hahead) rfl rfl
  | lane1 => rfl
  | lane2 => rfl

end Sys2Proof.Machine

/-! ## The end of a fetch slot, by the position in the line -/

namespace Sys2Proof.Machine

/-! ### What `SlotDone` gives on each lane (R225) -/

/-- What the bookkeeping of a fetch slot makes of a lane's block `f` where words of the line are left: a complete block
gives way to the next slot of the current list, any other stays (R225). -/
structure BlockDone (d : DescRam) (list : LineState) (l : Lane) (f g : LaneFetch) : Prop where
  complete : f.rem = 0#32 → ∃ b, nextSlot f.slot = some b ∧ g = snapshot d list l b
  kept : f.rem ≠ 0#32 → g = f

theorem exists_nextSlot {l : Lane} {b : Slot} (hlast : (slotsAfter l b).isEmpty = false) :
    ∃ c, nextSlot b = some c := by
  cases b with
  | slot3 => cases l <;> cases hlast
  | _ => exact ⟨_, rfl⟩

theorem slotNumber_nextSlot {b c : Slot} (h : nextSlot b = some c) : slotNumber c = slotNumber b + 1 := by
  cases b <;> cases h <;> rfl

/-- A block is its lane's last exactly where no slot of the list comes after it (R198). -/
theorem SlotEnd.last {m x : State} {n : Nat} (h : SlotEnd m x n) {t : Timing} (hd : LoadableDesc m.desc t) (l : Lane) :
    dctrlLast (x.fetcher.lanes.get l).dc = (slotsAfter l (x.fetcher.lanes.get l).slot).isEmpty := by
  have hdesc : x.desc = m.desc := by rw [h.frame]
  have hb := h.block l
  rw [hb.dctrl, hdesc, hd.last _ _ _ hb.used]

theorem SlotEnd.irq {m x : State} {n : Nat} (h : SlotEnd m x n) {t : Timing} (hd : LoadableDesc m.desc t) (l : Lane) :
    dctrlIrq (x.fetcher.lanes.get l).dc = decide (l = .lane0 ∧ (x.fetcher.lanes.get l).slot = .slot2) := by
  have hdesc : x.desc = m.desc := by rw [h.frame]
  have hb := h.block l
  rw [hb.dctrl, hdesc, hd.irq _ _ _ hb.used]

/-- No lane asks for a slot past its last (R198). -/
theorem SlotEnd.completeLane_completes {m x : State} {n : Nat} (h : SlotEnd m x n) {t : Timing}
    (hd : LoadableDesc m.desc t) (l : Lane) (cross : Bool) : ∃ r, Machine.completeLane l (x, cross) = some r := by
  by_cases hrem : (x.fetcher.lanes.get l).rem = 0#32
  · cases hlast : dctrlLast (x.fetcher.lanes.get l).dc with
    | true => exact ⟨_, completeLane_of_last cross hrem hlast⟩
    | false =>
      obtain ⟨b, hb⟩ := exists_nextSlot ((h.last hd l).symm.trans hlast)
      exact ⟨_, completeLane_of_next cross hrem hlast hb⟩
  · exact ⟨_, completeLane_of_words cross hrem⟩

/-- Lane 0 alone raises LINE_IRQ, at the end of slot 2 (R199). -/
theorem SlotEnd.completeLane_status {m x : State} {n : Nat} (h : SlotEnd m x n) {t : Timing}
    (hd : LoadableDesc m.desc t) {l : Lane} {cross : Bool} {r : State × Bool}
    (hc : Machine.completeLane l (x, cross) = some r) :
    r.1.status = if l = .lane0 ∧ (x.fetcher.lanes.get l).slot = .slot2 ∧ (x.fetcher.lanes.get l).rem = 0#32
      then flagLineIrq x.status else x.status := by
  have hflag (hrem : (x.fetcher.lanes.get l).rem = 0#32) : (flagBlock (x.fetcher.lanes.get l) x).status =
      if l = .lane0 ∧ (x.fetcher.lanes.get l).slot = .slot2 ∧ (x.fetcher.lanes.get l).rem = 0#32
        then flagLineIrq x.status else x.status := by
    simp only [flagBlock, h.irq hd l, hrem, and_true, decide_eq_true_eq]
  rcases completeLane_cases hc with ⟨hrem, rfl⟩ | ⟨hrem, -, rfl⟩ | ⟨hrem, -, b, -, rfl⟩
  · exact (if_neg fun ⟨_, _, hz⟩ => hrem hz).symm
  · exact hflag hrem
  · exact hflag hrem

/-- Where words of the line are left, a complete block is not the lane's last, so its next slot is loaded. -/
theorem SlotEnd.completeLane_blockDone {m x : State} {n : Nat} (h : SlotEnd m x n) {t : Timing}
    (hd : LoadableDesc m.desc t) (hn : n ≠ 0) {l : Lane} {cross : Bool} {r : State × Bool}
    (hc : Machine.completeLane l (x, cross) = some r) :
    BlockDone m.desc m.curList l (x.fetcher.lanes.get l) (r.1.fetcher.lanes.get l) := by
  have hdesc : x.desc = m.desc := by rw [h.frame]
  have hlist : x.curList = m.curList := by rw [h.frame]
  rcases completeLane_cases hc with ⟨hrem, rfl⟩ | ⟨hrem, hl, rfl⟩ | ⟨hrem, -, b, hb, rfl⟩
  · exact ⟨fun hz => absurd hz hrem, fun _ => rfl⟩
  · have hleft := h.left l
    rw [h.last hd, List.isEmpty_iff] at hl
    rw [laneLeft, hrem, hl] at hleft
    exact absurd hleft.symm hn
  · refine ⟨fun _ => ⟨b, hb, ?_⟩, fun hne => absurd hrem hne⟩
    rw [← hdesc, ← hlist]
    exact Lanes.get_set_self ..

/-- `SlotDone` on level lanes with `n` words of the line left: it has a next state, the crossing where `n` is 0;
LINE_IRQ is raised where lane 0 has just finished slot 2; and where words are left, each lane's block is done. -/
theorem slotDone_completes {m : State} {n : Nat} {tm : Timing} (hd : LoadableDesc m.desc tm)
    (hm : SlotEnd (countSlot m) (countSlot m) n) :
    ∃ x, slotDone m = .next (if n = 0 then lineCross x else x) ∧ SlotEnd (countSlot m) x n ∧
      x.status = (if (m.fetcher.lanes.get .lane0).slot = .slot2 ∧ (m.fetcher.lanes.get .lane0).rem = 0#32
        then flagLineIrq m.status else m.status) ∧
      (n ≠ 0 → ∀ l, BlockDone m.desc m.curList l (m.fetcher.lanes.get l) (x.fetcher.lanes.get l)) := by
  obtain ⟨r0, hr0⟩ := hm.completeLane_completes hd .lane0 false
  obtain ⟨e0, s0, w0, -⟩ := hm.completeLane hd hr0
  obtain ⟨r1, hr1⟩ := e0.completeLane_completes hd .lane1 r0.2
  obtain ⟨e1, s1, w1, -⟩ := e0.completeLane hd hr1
  obtain ⟨r2, hr2⟩ := e1.completeLane_completes hd .lane2 r1.2
  obtain ⟨e2, s2, w2, c2⟩ := e1.completeLane hd hr2
  have hcross : r2.2 = true ↔ n = 0 := by
    refine ⟨fun hc => by_contra fun hn => ?_, c2⟩
    have hfalse : r2.2 = false := (w2 hn).1.trans ((w1 hn).1.trans (w0 hn).1)
    simp [hc] at hfalse
  have hstatus0 := hm.completeLane_status hd hr0
  have hstatus1 := e0.completeLane_status hd hr1
  have hstatus2 := e1.completeLane_status hd hr2
  refine ⟨r2.1, slotDone_eq_next_iff.mpr ⟨r0, r1, r2, hr0, hr1, hr2, if_congr hcross.symm rfl rfl⟩, e2, ?_,
    fun hn l => ?_⟩
  · rw [hstatus2, if_neg (fun h => Lane.noConfusion h.1), hstatus1, if_neg (fun h => Lane.noConfusion h.1), hstatus0]
    exact if_congr (and_iff_right rfl) rfl rfl
  · cases l with
    | lane0 =>
      rw [s2 _ (by decide), s1 _ (by decide)]
      exact hm.completeLane_blockDone hd hn hr0
    | lane1 =>
      have hb := e0.completeLane_blockDone hd hn hr1
      rw [s0 _ (by decide)] at hb
      rw [s2 _ (by decide)]
      exact hb
    | lane2 =>
      have hb := e1.completeLane_blockDone hd hn hr2
      rw [s1 _ (by decide), s0 _ (by decide)] at hb
      exact hb

/-! ### Where the interrupt falls in the line (R199) -/

/-- With lanes 0 and 1 read, lane 0 has just finished slot 2 exactly where the active region is what it has left. -/
theorem Inv.lane0_slot2_done_iff {s : State} (h : Inv s) (hr : s.ctrl.run = true) (hfk : s.fetcher.fk = .lane2) :
    (s.fetcher.lanes.get .lane0).slot = .slot2 ∧ (s.fetcher.lanes.get .lane0).rem = 0#32 ↔
      laneLeft s .lane0 = s.timing.hActive.toNat / 2 := by
  have hb := h.flags.run_built hr
  obtain ⟨-, -, ⟨hbp, -⟩, -⟩ := (hValid_iff s.timing).mp (h.flags.built_valid hb)
  have hread := h.engine.read hr .lane0 (by rw [hfk]; rfl)
  have hrem : (s.fetcher.lanes.get .lane0).rem = 0#32 ↔ (s.fetcher.lanes.get .lane0).rem.toNat = 0 :=
    BitVec.toNat_inj.symm
  rw [h.lane0_count hb] at hread
  rw [hrem, laneLeft, h.slotWords_lane0 hb]
  generalize (s.fetcher.lanes.get .lane0).slot = b at hread ⊢
  cases b <;> simp only [slotsAfter, lane0Width, List.map_cons, List.map_nil, List.sum_cons, List.sum_nil] at hread ⊢
  case slot2 => simp
  all_goals exact iff_of_false (fun hs => Slot.noConfusion hs.1) (by omega)

/-! ### Lane 2's read (R222 to R227) -/

/-- The FETCHER's read of lane 2 is `SlotDone` once its word is appended. -/
theorem Inv.fetchRead_lane2 {s : State} (h : Inv s) (hf : fetchEnabled s = true) (hfk : s.fetcher.fk = .lane2)
    {w : Word} (hw : memRead s s.fetcher.lanes.l2.addr = .word w) :
    (s.fetcher.lanes.get .lane2).rem ≠ 0#32 ∧
      Machine.runAgent .fetcher s = Machine.slotDone (Machine.pushWord .lane2 w s) := by
  have hrem : (s.fetcher.lanes.get .lane2).rem ≠ 0#32 := fun hz => by
    have hpos := h.engine.unread (run_of_fetchEnabled hf) .lane2 (by rw [hfk]; rfl)
    rw [hz] at hpos
    exact absurd hpos (by decide)
  refine ⟨hrem, (if_pos hf).trans ?_⟩
  rw [fetchRead_of_word (by rw [hfk]; exact hw) (by rw [hfk]; exact hrem), hfk, if_pos rfl]

/-- A status whose LINE_IRQ is raised where a condition holds (R225). -/
theorem flagLineIrq_if (p : Prop) [Decidable p] (st : Status) :
    (if p then flagLineIrq st else st) =
      { st with lineIrq := st.lineIrq || decide p, irqOvr := st.irqOvr || (st.lineIrq && decide p) } := by
  split <;> simp [flagLineIrq, *]

/-- Settles O56: the read is `SlotDone` on level lanes, whose interrupt is lane 0's at the end of slot 2, where the
active region is left; with no word left the next line begins at `atLineStart`. -/
theorem lineEventsByPosition : Obligations.LineEventsByPosition := by
  intro s w h hf hfk hw
  have hr := run_of_fetchEnabled hf
  have hload := h.loadable (h.flags.run_built hr)
  obtain ⟨hrem, hrun⟩ := h.fetchRead_lane2 hf hfk hw
  obtain ⟨x, hx, hend, hstatus, hblocks⟩ :=
    slotDone_completes (m := pushWord .lane2 w s) hload (h.engine.slotEnd hr hfk hrem w)
  have hleft0 : laneLeft s .lane0 = laneLeft s .lane2 - 1 := by
    have hlock := h.engine.lockstep hr .lane0
    rw [hfk] at hlock
    exact Nat.eq_sub_of_add_eq hlock
  have hirq := h.lane0_slot2_done_iff hr hfk
  rw [hleft0] at hirq
  have hst := hstatus.trans ((if_congr hirq rfl rfl).trans (flagLineIrq_if _ s.status))
  have hframe := hend.frame
  rw [slotFrame, hst] at hframe
  refine ⟨_, hrun.trans hx, ?_, fun hne => ?_, fun heq => ?_⟩
  · split <;> rw [hframe] <;> rfl
  · rw [if_neg hne]
    refine ⟨by rw [hframe]; rfl, by rw [hframe]; rfl, by rw [hst], hend.left .lane2, fun l =>
      ⟨fun hz => ?_, (hblocks hne l).kept⟩⟩
    obtain ⟨b, hb, hsnap⟩ := (hblocks hne l).complete hz
    exact ⟨b, slotNumber_nextSlot hb, hsnap⟩
  · rw [if_pos heq]
    have hdesc : x.desc = s.desc := by rw [hframe]; rfl
    have hnext : x.nextList = s.nextList := by rw [hframe]; rfl
    have hstart : atLineStart (lineCross x) := by rw [hframe]; rfl
    refine ⟨hnext, rfl, by rw [hframe]; rfl, hstart.laneLeft (hdesc ▸ hload.toBuiltDesc) .lane2, fun l => ?_⟩
    rw [← hdesc, ← hnext]
    exact loadFirstSlots_get ..

end Sys2Proof.Machine

/-! ## The submission and waiting commands -/

namespace Sys2Proof.Machine

/-! ### TX_SUBMIT (R228) -/

theorem exec_txSubmit_notBuilt (list : LineState) {s : State} (hb : s.status.built = false) :
    exec (.txSubmit list) s = .next (cmdError .notBuilt s) := if_pos hb

theorem exec_txSubmit_srcUnset {list : LineState} {s : State} (hb : s.status.built = true) (hlist : list = .active)
    (hsrc : s.status.srcValid = false) : exec (.txSubmit list) s = .next (cmdError .srcUnset s) :=
  (if_neg (ne_false_of_eq_true hb)).trans (if_pos ⟨hlist, hsrc⟩)

theorem exec_txSubmit_submit {list : LineState} {s : State} (hb : s.status.built = true)
    (hsrc : list = .active → s.status.srcValid = true) :
    exec (.txSubmit list) s = .next (submitList list s) :=
  (if_neg (ne_false_of_eq_true hb)).trans (if_neg fun ⟨hlist, hunset⟩ => ne_false_of_eq_true (hsrc hlist) hunset)

/-- Settles O32, by the three outcomes of TX_SUBMIT and its row of the opcode map. -/
theorem txSubmitRule : Obligations.TxSubmitRule :=
  ⟨fun list _ => ⟨exec_txSubmit_submit, exec_txSubmit_notBuilt list, exec_txSubmit_srcUnset⟩,
    commandWords_of_row rfl⟩

/-! ### TX_SUBMIT_ACTIVE (R230) -/

theorem exec_txSubmitActive_notBuilt {s : State} (hb : s.status.built = false) :
    exec .txSubmitActive s = .next (cmdError .notBuilt s) := if_pos hb

theorem exec_txSubmitActive_misaligned {s : State} (hb : s.status.built = true) (ha : s.arg0.toNat % 4 ≠ 0) :
    exec .txSubmitActive s = .next (cmdError .misaligned s) := by
  have halign : wordAligned (opBufferPtr s) = false := Bool.eq_false_iff.mpr ((wordAligned_iff s.arg0).not.mpr ha)
  exact (if_neg (ne_false_of_eq_true hb)).trans (if_pos halign)

/-- Past the first two checks, the length decides. -/
theorem exec_txSubmitActive_aligned {s : State} (hb : s.status.built = true) (ha : s.arg0.toNat % 4 = 0) :
    exec .txSubmitActive s =
      if s.arg1.toNat ≠ s.timing.hActive.toNat / 2 then .next (cmdError .lenMismatch s)
      else .next (submitList .active (patchActive s.arg0 s.arg1 s)) := by
  have halign : wordAligned (opBufferPtr s) = true := (wordAligned_iff s.arg0).mpr ha
  exact (if_neg (ne_false_of_eq_true hb)).trans (if_neg (ne_false_of_eq_true halign))

/-- Settles O33: past its three checks TX_SUBMIT_ACTIVE is the patch with the length as the stride, which puts each
lane's run right after the one before it, and the submission of the Active list. -/
theorem txSubmitActiveRule : Obligations.TxSubmitActiveRule := by
  refine ⟨fun s => ⟨fun hb ha hlen => ?_, exec_txSubmitActive_notBuilt, exec_txSubmitActive_misaligned,
    fun hb ha hlen => (exec_txSubmitActive_aligned hb ha).trans (if_pos hlen)⟩, commandWords_of_row rfl⟩
  exact ⟨_, (exec_txSubmitActive_aligned hb ha).trans (if_neg (not_not_intro hlen)), rfl,
    add_mul_toNat s.arg0 4#32 s.arg1, add_mul_toNat s.arg0 8#32 s.arg1, fun _ _ _ => descAt_patchDesc_frame ..⟩

/-! ### TX_WAIT (R232) -/

theorem countReached_iff (s : State) : countReached s = true ↔ s.arg0.toNat ≤ s.fetchCnt.toNat := decide_eq_true_iff

theorem exec_txWait_notRunning {s : State} (h : s.ctrl.run = false ∨ s.status.txFault = true) :
    exec .txWait s = .next (cmdError .notRunning s) := if_pos h

/-- With the engine running unfaulted, the count decides. -/
theorem exec_txWait_running {s : State} (hr : s.ctrl.run = true) (hf : s.status.txFault = false) :
    exec .txWait s = if countReached s = true then .next s else .next (beginHold s) :=
  if_neg fun h => h.elim (ne_false_of_eq_true hr) (ne_true_of_eq_false hf)

/-- Settles O34, by the three outcomes of TX_WAIT and its row of the opcode map. -/
theorem txWaitRule : Obligations.TxWaitRule := by
  refine ⟨fun s => ⟨fun hr hf hc => ?_, fun hr hf hc => ?_, exec_txWait_notRunning⟩, commandWords_of_row rfl⟩
  · rw [exec_txWait_running hr hf, if_pos ((countReached_iff s).mpr hc)]
  · rw [exec_txWait_running hr hf, if_neg ((countReached_iff s).not.mpr hc.not_ge)]
    rfl

theorem hostReady_of_holding {s : State} (hh : s.host.holding = true) (hs : s.host.stuck = false) :
    hostReady s = waitOver s := by
  simp [hostReady, hh, hs]

/-- A holding HOST's turn is the hold's own: `resumeTxWait` leaves the state as it is until the hold is over. -/
theorem hostStep_of_holding {s : State} (hh : s.host.holding = true) (hs : s.host.stuck = false) :
    hostStep s = .next (resumeTxWait s) := by
  rw [hostStep, hostReady_of_holding hh hs, if_pos hh]
  split
  · next hover =>
    obtain ⟨hc, hf⟩ := Bool.or_eq_false_iff.mp hover
    simp only [resumeTxWait, hc, hf, Bool.false_eq_true, if_false]
  · rfl

/-- Settles O35, by the three outcomes of a held turn. -/
theorem holdingHostWaits : Obligations.HoldingHostWaits := by
  intro s hh hs
  have hturn : runAgent .host s = .next (resumeTxWait s) := hostStep_of_holding hh hs
  rw [hturn, resumeTxWait]
  refine ⟨fun hf hc => ?_, fun hf hc => ?_, fun hf => ?_⟩
  · rw [if_neg (ne_true_of_eq_false hf), if_neg ((countReached_iff s).not.mpr hc.not_ge)]
  · rw [if_neg (ne_true_of_eq_false hf), if_pos ((countReached_iff s).mpr hc)]
    rfl
  · rw [if_pos hf]
    rfl

end Sys2Proof.Machine

/-! ## The transmit engine: CTRL writes and steps -/

namespace Sys2Proof.Machine

/-! ### CTRL writes (R220, R221) -/

theorem startRefused_iff (s : State) : startRefused s = true ↔
    s.status.built = false ∨ vValid s.timing = false ∨ (s.nextList = .active ∧ s.status.srcValid = false) := by
  simp [startRefused, or_assoc]

theorem writeCtrl_of_noStart {s : State} {v : Word} (h : v.getLsbD 0 = false ∨ s.ctrl.run = true) :
    writeCtrl v s = setIrqEn (v.getLsbD 1) s :=
  if_neg fun hstart => by
    obtain ⟨hbit, hstopped⟩ := Bool.and_eq_true_iff.mp hstart
    rcases h with h | h
    · rw [h] at hbit; cases hbit
    · rw [h] at hstopped; cases hstopped

/-- Bit 0 written while stopped asks for the start, and the start's checks decide. -/
theorem writeCtrl_of_start {s : State} {v : Word} (hbit : v.getLsbD 0 = true) (hr : s.ctrl.run = false) :
    writeCtrl v s = if startRefused s = true then cmdError .startRefused (setIrqEn (v.getLsbD 1) s)
      else startEngine (setIrqEn (v.getLsbD 1) s) :=
  if_pos (by rw [hbit, hr]; rfl)

/-- Settles O46: no start asked for, a start refused, and a start. -/
theorem ctrlWriteRule : Obligations.CtrlWriteRule := by
  intro s v en refused loaded
  have hwrite : regWrite 0x000#12 v s = .next (writeCtrl v s) := regWrite_regOffset .ctrl v s
  rw [hwrite]
  refine ⟨fun h => ?_, fun hbit hr href => ?_, fun hbit hr hok => ?_⟩
  · rw [writeCtrl_of_noStart h]
    rfl
  · rw [writeCtrl_of_start hbit hr, if_pos ((startRefused_iff s).mpr href)]
    rfl
  · rw [writeCtrl_of_start hbit hr, if_neg ((startRefused_iff s).not.mpr hok)]
    rfl

theorem regWrite_run {off : Offset} {v : Word} {s t : State} (h : regWrite off v s = .next t)
    (hr : s.ctrl.run = true) : t.ctrl.run = true := by
  rcases regWrite_cases h with rfl | rfl | rfl | ⟨-, i, -, hx⟩ | ⟨c, rfl⟩ | rfl | rfl | ⟨r, rfl⟩
  · exact hr
  · rw [writeCtrl_of_noStart (.inr hr)]; exact hr
  · exact hr
  · rw [exec_frame hx]; exact hr
  · exact hr
  · exact hr
  · exact hr
  · rcases writeCfg_cases r v s with ⟨-, e⟩ | ⟨hstop, -⟩
    · rw [e]; exact hr
    · simp [hr] at hstop

/-- Settles O47, agent by agent: a HOST step writes CTRL only through `writeCtrl`, and the engine not at all. -/
theorem runStaysSet : Obligations.RunStaysSet := by
  intro a s t h ha hr
  cases a with
  | host =>
    rcases hostStep_cases h with ⟨e, -⟩ | ⟨-, rfl⟩ | ⟨off, v, -, hw⟩ | ⟨width, addr, v, -, -, rfl⟩
    · rw [e]; exact hr
    · exact hr
    · exact regWrite_run hw hr
    · exact hr
  | fetcher =>
    rcases runAgent_fetcher_cases h with ⟨-, hread⟩ | ⟨-, rfl⟩
    · rw [fetchRead_frame hread]; exact hr
    · exact hr
  | emitter =>
    rcases runAgent_emitter_cases h with ⟨he, rfl⟩ | ⟨-, rfl⟩
    · obtain ⟨-, -, w0, q0, w1, q1, w2, q2, -, e⟩ := emit_cases he
      rw [e]; exact hr
    · exact hr
  | reset => exact absurd rfl ha
  | otherCore width addr v =>
    cases h
    rcases otherCoreWrite_cases width addr v s with ⟨-, -, e⟩ | e <;> rw [e] <;> exact hr

/-! ### FETCHER reads of lanes 0 and 1 (R223, R224) -/

theorem advanceFetch_addr_toNat (f : LaneFetch) : (advanceFetch f).addr.toNat =
    if f.dc.getLsbD 0 = true then (f.addr.toNat + 4) % 2 ^ 32 else f.addr.toNat := by
  rw [advanceFetch, apply_ite BitVec.toNat]
  rfl

theorem nextLane_of_ne_lane2 {l : Lane} (h : l ≠ .lane2) : nextLane l = if l = .lane0 then .lane1 else .lane2 := by
  cases l with
  | lane0 => rfl
  | lane1 => rfl
  | lane2 => exact absurd rfl h

/-- Settles O48: the step is `pushWord` on the lane read. -/
theorem fetchReadAppends : Obligations.FetchReadAppends := by
  intro s w hen hl l f hw hpos
  have hrem : f.rem ≠ 0#32 := fun hz => by
    rw [hz] at hpos
    exact absurd hpos (by decide)
  refine ⟨advanceFetch f, ?_, rfl, rfl, Nat.eq_sub_of_add_eq (advanceFetch_rem hrem), advanceFetch_addr_toNat f⟩
  rw [runAgent, if_pos hen, fetchRead_of_word hw hrem, if_neg hl, ← nextLane_of_ne_lane2 hl]
  rfl

/-! ### When the engine waits (R222, R233, R234) -/

theorem runAgent_fetcher_of_disabled {s : State} (h : ¬ fetchEnabled s = true) : runAgent .fetcher s = .next s :=
  if_neg h

theorem runAgent_emitter_of_disabled {s : State} (h : ¬ emitEnabled s = true) : runAgent .emitter s = .next s :=
  if_neg h

theorem fetchEnabled_iff (s : State) : fetchEnabled s = true ↔ s.ctrl.run = true ∧ s.status.txFault = false ∧
    (s.fetcher.fk = .lane0 → ∀ l, (s.fifo.get l).length < fifoDepth s.params) := by
  have hall : (∀ l, (s.fifo.get l).length < fifoDepth s.params) ↔ s.fifo.l0.length < fifoDepth s.params ∧
      s.fifo.l1.length < fifoDepth s.params ∧ s.fifo.l2.length < fifoDepth s.params :=
    ⟨fun h => ⟨h .lane0, h .lane1, h .lane2⟩, fun ⟨h0, h1, h2⟩ l => by cases l <;> assumption⟩
  rw [hall]
  simp [fetchEnabled, fifoHasRoom, and_assoc, imp_iff_not_or]

theorem emitEnabled_iff (s : State) : emitEnabled s = true ↔ s.ctrl.run = true ∧ s.status.txFault = false ∧
    ∀ l, s.fifo.get l ≠ [] := by
  have hall : (∀ l, s.fifo.get l ≠ []) ↔ s.fifo.l0 ≠ [] ∧ s.fifo.l1 ≠ [] ∧ s.fifo.l2 ≠ [] :=
    ⟨fun h => ⟨h .lane0, h .lane1, h .lane2⟩, fun ⟨h0, h1, h2⟩ l => by cases l <;> assumption⟩
  rw [hall]
  simp [emitEnabled, and_assoc]

/-- Settles O50: each condition breaks the enabling condition of the agent it stops. -/
theorem engineWaitsWhereNotEnabled : Obligations.EngineWaitsWhereNotEnabled := by
  refine fun s => ⟨fun h => ⟨runAgent_fetcher_of_disabled fun hen => ?_, runAgent_emitter_of_disabled fun hen => ?_⟩,
    fun l hfk hfull => runAgent_fetcher_of_disabled fun hen => ?_,
    fun l hempty => runAgent_emitter_of_disabled fun hen => ?_⟩
  · obtain ⟨hr, hf, -⟩ := (fetchEnabled_iff s).mp hen
    exact h.elim (ne_false_of_eq_true hr) (ne_true_of_eq_false hf)
  · obtain ⟨hr, hf, -⟩ := (emitEnabled_iff s).mp hen
    exact h.elim (ne_false_of_eq_true hr) (ne_true_of_eq_false hf)
  · obtain ⟨-, -, hroom⟩ := (fetchEnabled_iff s).mp hen
    exact absurd (hroom hfk l) hfull.not_gt
  · obtain ⟨-, -, hwords⟩ := (emitEnabled_iff s).mp hen
    exact hwords l hempty

/-! ### EMITTER steps and the order on the wire (R235, R236) -/

theorem pairSymbols_emitBits (w : Word) : pairSymbols (emitBits w) = [w.extractLsb' 0 10, w.extractLsb' 10 10] := by
  have hsym (start : Nat) (h : start + 10 ≤ 20) : (emitBits w).extractLsb' start 10 = w.extractLsb' start 10 := by
    refine BitVec.eq_of_getLsbD_eq fun i hi => ?_
    simp [emitBits, hi, show start + i < 20 by omega]
  rw [pairSymbols, hsym 0 (by omega), hsym 10 (by omega)]

theorem laneSymbols_append (out : List (Lanes Pair)) (p : Lanes Pair) (l : Lane) :
    laneSymbols (out ++ [p]) l = laneSymbols out l ++ pairSymbols (p.get l) := by
  simp [laneSymbols]

theorem laneBits_append (out : List (Lanes Pair)) (p : Lanes Pair) (l : Lane) :
    laneBits (out ++ [p]) l =
      laneBits out l ++ ((pairSymbols (p.get l)).map fun q => (List.range 10).map fun i => q.getLsbD i).flatten := by
  rw [laneBits, laneSymbols_append, List.map_append, List.flatten_append, laneBits]

/-- The two symbols of a word, each bit 0 first, are its low 20 bits in order. -/
theorem symbolBits_eq (w : Word) :
    (([w.extractLsb' 0 10, w.extractLsb' 10 10] : List Symbol).map fun q =>
      (List.range 10).map fun i => q.getLsbD i).flatten = (List.range 20).map fun i => w.getLsbD i := by
  simp [List.range_succ]

theorem emitEnabled_of_heads {s : State} {w0 w1 w2 : Word} {q0 q1 q2 : List Word} (hr : s.ctrl.run = true)
    (hf : s.status.txFault = false) (hq : s.fifo = ⟨w0 :: q0, w1 :: q1, w2 :: q2⟩) : emitEnabled s = true := by
  refine (emitEnabled_iff s).mpr ⟨hr, hf, fun l => ?_⟩
  rw [hq]
  cases l <;> simp [Lanes.get]

/-- Settles O51: the step is `emitTriple`, whose triple is the low 20 bits of the heads. -/
theorem emitTakesHeads : Obligations.EmitTakesHeads := by
  intro s w0 w1 w2 q0 q1 q2 hr hf hq
  have hcount : BitVec.ofNat 32 (s.wordCnt.toNat + 1) = s.wordCnt + 1#32 := by
    rw [BitVec.ofNat_add, BitVec.ofNat_toNat, BitVec.setWidth_eq]
  refine ⟨emitBits w0, emitBits w1, emitBits w2, ?_, emitBits_toNat w0, emitBits_toNat w1, emitBits_toNat w2,
    fun l => ?_⟩
  · rw [runAgent, if_pos (emitEnabled_of_heads hr hf hq), emitTriple, hq, hcount]
  · have hlane : (⟨emitBits w0, emitBits w1, emitBits w2⟩ : Lanes Pair).get l =
        emitBits ((⟨w0, w1, w2⟩ : Lanes Word).get l) := by
      cases l <;> rfl
    rw [laneSymbols_append, laneBits_append, hlane, pairSymbols_emitBits, symbolBits_eq]
    exact ⟨rfl, rfl⟩

end Sys2Proof.Machine

/-! ## CmdError -/

namespace Sys2Proof.Machine

/-! ### What raising CmdError does (R261) -/

theorem sameButCmdErr_cmdError (c : CmdCause) (s : State) : sameButCmdErr s (cmdError c s) := rfl

/-- A later CmdError keeps the cause of the first. -/
theorem cmdError_errCause_of_cmdErr (c : CmdCause) {s : State} (h : s.status.cmdErr = true) :
    (cmdError c s).status.errCause = s.status.errCause := if_pos h

theorem cmdError_errCause_of_noCmdErr (c : CmdCause) {s : State} (h : s.status.cmdErr = false) :
    (cmdError c s).status.errCause = cmdCauseCode c := if_neg (ne_true_of_eq_false h)

/-! ### Commands write CMD_ERR and ERR_CAUSE through CmdError alone -/

theorem exec_cmdError_or_keeps {i : Instr} {s t : State} (h : exec i s = .next t) :
    (∃ c, t = cmdError c s) ∨ (t.status.cmdErr = s.status.cmdErr ∧ t.status.errCause = s.status.errCause) := by
  rcases exec_cases h with hc | rfl | ⟨⟨r0, r1, rfl⟩, -⟩ | ⟨b0, b1, -, rfl⟩ | ⟨-, ht⟩ |
    ⟨-, -, -, -, rfl⟩ | ⟨-, -, -, rfl⟩ | ⟨list, -, -, -, rfl⟩ | ⟨-, -, -, rfl⟩ | ⟨-, -, -, rfl⟩
    <;> try exact .inr ⟨rfl, rfl⟩
  · exact .inl hc
  · rw [ht]; exact .inr ⟨rfl, rfl⟩

/-- Settles O36: a command that writes CMD_ERR or ERR_CAUSE is a `cmdError`, and the codes are read off cause by
cause. -/
theorem cmdErrorHasNoOtherEffect : Obligations.CmdErrorHasNoOtherEffect := by
  refine ⟨fun i s t h => ?_, fun c s =>
    ⟨sameButCmdErr_cmdError c s, rfl, cmdError_errCause_of_cmdErr c, fun hclear => ?_⟩⟩
  · rcases exec_cmdError_or_keeps h with ⟨c, rfl⟩ | hkeeps
    · exact .inr ⟨sameButCmdErr_cmdError c s, rfl, cmdError_errCause_of_cmdErr c,
        fun hclear => ⟨c, cmdError_errCause_of_noCmdErr c hclear⟩⟩
    · exact .inl hkeeps
  · rw [cmdError_errCause_of_noCmdErr c hclear]
    cases c <;> rfl

end Sys2Proof.Machine

/-! ## The invariant and the model's faults -/

namespace Sys2Proof.Machine

/-! ### A HOST step stops at a misaligned memory write alone (R76, R78; log 9) -/

theorem runCommand_completes (w : Word) (s : State) : ∃ t, runCommand w s = .next t := by
  cases hd : decode w with
  | ok i =>
    obtain ⟨t, ht⟩ := exec_completes i s
    exact ⟨t, (runCommand_of_decode hd s).trans ht⟩
  | error e => exact ⟨_, runCommand_of_decode_error hd s⟩

theorem writeReg_completes (r : Reg) (v : Word) (s : State) : ∃ t, writeReg r v s = .next t := by
  cases r with
  | cmd => exact runCommand_completes v s
  | _ => exact ⟨_, rfl⟩

theorem regWrite_completes (off : Offset) (v : Word) (s : State) : ∃ t, regWrite off v s = .next t := by
  rw [regWrite]
  split
  · exact writeReg_completes _ v s
  · exact ⟨s, rfl⟩

/-- A window write the bus refuses is a BusFault, which is a next state too (R264). -/
theorem hostWrite_completes (width : AccessWidth) (off : Offset) (v : Word) (s : State) :
    ∃ t, hostWrite width off v s = .next t := by
  rw [hostWrite]
  split
  · exact regWrite_completes off v s
  · exact ⟨_, rfl⟩

theorem hostMemWrite_completes_or_misaligned (width : AccessWidth) (addr v : Word) (s : State) :
    (∃ t, hostMemWrite width addr v s = .next t) ∨
      (hostMemWrite width addr v s = .fault .memWriteMisaligned ∧ (HostOp.memWrite width addr v).wf = false) := by
  rw [hostMemWrite]
  split
  · exact .inl (hostWrite_completes width _ v s)
  · split
    · exact .inl ⟨_, rfl⟩
    · next hmisaligned => exact .inr ⟨rfl, beq_false_of_ne hmisaligned⟩

/-- One access has a next state, or it is a memory write that is not aligned to its width. -/
theorem runHostOp_completes_or_misaligned (op : HostOp) (s : State) :
    (∃ t, runHostOp op s = .next t) ∨
      (runHostOp op s = .fault .memWriteMisaligned ∧
        ∃ width addr v, op = .memWrite width addr v ∧ (HostOp.memWrite width addr v).wf = false) := by
  cases op with
  | read width off => exact .inl ⟨_, rfl⟩
  | write width off v => exact .inl (hostWrite_completes width off v s)
  | memWrite width addr v =>
    exact (hostMemWrite_completes_or_misaligned width addr v s).imp_right fun ⟨hfault, hwf⟩ =>
      ⟨hfault, width, addr, v, rfl, hwf⟩
  | waitIrq => exact .inl ⟨s, rfl⟩

theorem hostStep_completes_or_misaligned (s : State) :
    (∃ t, hostStep s = .next t) ∨
      (hostStep s = .fault .memWriteMisaligned ∧ ∃ width addr v rest,
        s.host.program = .memWrite width addr v :: rest ∧ (HostOp.memWrite width addr v).wf = false) := by
  rw [hostStep]
  split
  · exact .inl ⟨s, rfl⟩
  split
  · exact .inl ⟨_, rfl⟩
  split
  · exact .inl ⟨s, rfl⟩
  · next op rest hprog =>
    refine (runHostOp_completes_or_misaligned op (dropHostOp s)).imp_right ?_
    rintro ⟨hfault, width, addr, v, rfl, hwf⟩
    exact ⟨hfault, width, addr, v, rest, hprog, hwf⟩

/-! ### No read of the FETCHER stops (R77, R198, R223; log 10) -/

/-- An aligned read gives a word or a bus error. -/
theorem memRead_of_aligned {addr : Word} (ha : wordAligned addr = true) (s : State) :
    memRead s addr = .busError ∨ ∃ w, memRead s addr = .word w := by
  rw [memRead, if_neg (ne_false_of_eq_true ha)]
  split_ifs
  · exact .inr ⟨_, rfl⟩
  · exact .inr ⟨_, rfl⟩
  · exact .inl rfl

/-- The lane the FETCHER reads next has words left in its block. -/
theorem EngineInv.rem_ne_zero {s : State} (h : EngineInv s) (hr : s.ctrl.run = true) :
    (s.fetcher.lanes.get s.fetcher.fk).rem ≠ 0#32 := by
  have hself : laneAhead s.fetcher.fk s.fetcher.fk = 0 := by cases s.fetcher.fk <;> rfl
  intro hz
  have hpos := h.unread hr s.fetcher.fk hself
  rw [hz] at hpos
  exact absurd hpos (by decide)

/-- Lane 2's read closes the fetch slot, and no lane then asks for a slot past its last. -/
theorem Inv.slotDone_completes {s : State} (h : Inv s) (hr : s.ctrl.run = true) (hfk : s.fetcher.fk = .lane2)
    (w : Word) : ∃ t, Machine.slotDone (Machine.pushWord .lane2 w s) = .next t := by
  have hrem := h.engine.rem_ne_zero hr
  rw [hfk] at hrem
  obtain ⟨x, hx, -⟩ := Machine.slotDone_completes (m := Machine.pushWord .lane2 w s)
    (h.loadable (h.flags.run_built hr)) (h.engine.slotEnd hr hfk hrem w)
  exact ⟨_, hx⟩

/-- The block in flight is aligned and has words left, so its read is a word or a TxFault. -/
theorem Inv.fetchRead_completes {s : State} (h : Inv s) (hr : s.ctrl.run = true) :
    ∃ t, Machine.fetchRead s = .next t := by
  rcases memRead_of_aligned (h.engine.block hr s.fetcher.fk).aligned s with hm | ⟨w, hm⟩
  · exact ⟨_, fetchRead_of_busError hm⟩
  · rw [fetchRead_of_word hm (h.engine.rem_ne_zero hr)]
    split
    · next hfk =>
      rw [hfk]
      exact h.slotDone_completes hr hfk w
    · exact ⟨_, rfl⟩

/-! ### Every agent's step -/

/-- Every agent but the HOST has a next state. -/
theorem Inv.runAgent_completes {a : Agent} {s : State} (h : Inv s) (ha : a ≠ .host) :
    ∃ t, Machine.runAgent a s = .next t := by
  cases a with
  | host => exact absurd rfl ha
  | fetcher =>
    by_cases hf : fetchEnabled s = true
    · rw [Machine.runAgent, if_pos hf]
      exact h.fetchRead_completes (run_of_fetchEnabled hf)
    · exact ⟨s, runAgent_fetcher_of_disabled hf⟩
  | emitter =>
    by_cases he : emitEnabled s = true
    · exact ⟨_, if_pos he⟩
    · exact ⟨s, runAgent_emitter_of_disabled he⟩
  | reset => exact ⟨_, rfl⟩
  | otherCore width addr v => exact ⟨_, rfl⟩

/-- Settles O55, by the agent that moves: the agenda moves on unnoticed, only the HOST can stop, and it stops at a
misaligned memory write alone. -/
theorem invariantRulesOutEngineFaults : Obligations.InvariantRulesOutEngineFaults := by
  intro s h
  have hdrop : Inv (dropAgenda s) := h.of_same ⟨rfl, id⟩
  cases hnext : nextAgent s with
  | none => exact .inl ⟨s, by simp only [step, hnext]⟩
  | some a =>
    rw [step_of_nextAgent hnext]
    by_cases ha : a = .host
    · subst ha
      exact hostStep_completes_or_misaligned (dropAgenda s)
    · exact .inl (hdrop.runAgent_completes ha)

end Sys2Proof.Machine
